-- ==== Sys2Proof/Word.lean ====
section
/-! DEFINITION. The plain data units of the part: bytes, checks, characters. Everything the spec counts
(cycles, seconds, metres, amounts, indices) is a natural number; only what it treats as bits is a bit vector. -/

namespace Sys2Proof

/-- One byte of a frame, a page or a body. -/
abbrev Byte := BitVec 8

/-- A CRC-16 register (R19, R124, R205). -/
abbrev Crc := BitVec 16

/-- A set drawn from the eight cab attributes 0 to 7 (12, state table; R64). -/
abbrev Attrs := BitVec 8

/-- A 32-bit booking reference (R61). -/
abbrev JobId := BitVec 32

/-- A text: its characters (log 37). The empty text stands for an absent note or an empty canned entry. -/
abbrev Text := List Char

end Sys2Proof
end

