-- ==== Sys2Proof/Syntax.lean ====
section
/-! DEFINITION. The vocabulary of the links (what frames, requests, notices and records hold) and the commands of the
part: `Instr` has one constructor for each row of spec/opcode_table.json, in the table's order. -/

namespace Sys2Proof

/-! ### Names of the spec -/

/-- Address kinds of a downlink frame (R20, R205). -/
inductive AddrKind | all | cab | group
deriving DecidableEq, Repr, Inhabited

/-- Quality of a fix (03, Position fixes); `other` is any other quality value (R48). -/
inductive Quality | none | coarse | good | other
deriving DecidableEq, Repr, Inhabited

/-- Price mode and value (R61, R74). -/
inductive Price | unpriced | fixed (value : Nat) | cap (value : Nat)
deriving DecidableEq, Repr, Inhabited

/-- Price mode without its value (R94). -/
inductive PriceMode | unpriced | fixed | cap
deriving DecidableEq, Repr, Inhabited

inductive OfferKind | zone | direct
deriving DecidableEq, Repr, Inhabited

inductive JobClass | street | booked | account
deriving DecidableEq, Repr, Inhabited

inductive WithdrawReason | awardedElsewhere | jobCancelled
deriving DecidableEq, Repr, Inhabited

/-- States of an offer entry (R61). -/
inductive OfferState | presented | accepted | bidSent | awarded | closed
deriving DecidableEq, Repr, Inhabited

/-- Close reasons of an offer entry (R61). -/
inductive CloseReason | lost | expired | declined | withdrawn | cancelled | suppressed | notSent
deriving DecidableEq, Repr, Inhabited

/-- The hire states (05). -/
inductive MeterState | offDuty | vacant | assigned | hired | payable | suspended
deriving DecidableEq, Repr, Inhabited

/-- The motion indication (R97). -/
inductive Motion | moving | stopped
deriving DecidableEq, Repr, Inhabited

/-- A request that waits for a bank swap (R87). -/
inductive HeldRequest | hire | onDuty
deriving DecidableEq, Repr, Inhabited

/-- Acquisition states (01). -/
inductive AcqState | search | acquire | locked | holdover | parked
deriving DecidableEq, Repr, Inhabited

/-- Clock states (08). -/
inductive ClockState | unset | synced | free
deriving DecidableEq, Repr, Inhabited

/-- Emergency states (11). -/
inductive EmergencyState | idle | arming | alert | tracking | cancelPending
deriving DecidableEq, Repr, Inhabited

/-- Return states of ARMING (R176). -/
inductive ReturnState | idle | tracking | cancelPending
deriving DecidableEq, Repr, Inhabited

/-- Staging states (R125). -/
inductive StagingState | empty | clearing | loading | staged | rejected | superseded
deriving DecidableEq, Repr, Inhabited

/-- The operation of the tariff store in flight (R125). -/
inductive StoreActivity | idle | clearing | writing | swapping
deriving DecidableEq, Repr, Inhabited

/-- Access classes, in falling rank (R8, R29). -/
inductive AccessClass | emergency | urgent | routine | bulk
deriving DecidableEq, Repr, Inhabited

/-- Kinds of uplink frame (02). -/
inductive Kind
  | beacon | cancel | bid | awardDecline | status | text | messageReply | readReceipt | reply | trip | shiftSummary
deriving DecidableEq, Repr, Inhabited

/-- States of an uplink entry (02). -/
inductive EntryState | waiting | reserving | granted | sent
deriving DecidableEq, Repr, Inhabited

/-- Causes of a failed attempt or of a fault (R18, R43). -/
inductive Cause | noSlot | noAck | noGrant
deriving DecidableEq, Repr, Inhabited

/-- Close-out marks of a SENT entry (02). -/
inductive CloseOut | expired | withdrawn
deriving DecidableEq, Repr, Inhabited

/-- Delivery states of a trip record (09). -/
inductive Delivery | undelivered | queued | delivered
deriving DecidableEq, Repr, Inhabited

/-- States of the shift summary (09). -/
inductive SummaryState | pending | queued
deriving DecidableEq, Repr, Inhabited

inductive Priority | normal | urgent
deriving DecidableEq, Repr, Inhabited

/-- The answers a message allows (10). -/
inductive ReplyForm | none | ack | yesNo | canned (indices : List Nat)
deriving DecidableEq, Repr, Inhabited

/-- An answer to a message (R170). -/
inductive Answer | ack | yes | no | canned (index : Nat)
deriving DecidableEq, Repr, Inhabited

/-- Where an inbound message came from (10). -/
inductive Origin | base | all | group (number : Nat)
deriving DecidableEq, Repr, Inhabited

inductive MessageState | unread | read | replied
deriving DecidableEq, Repr, Inhabited

/-- Tariff modes: S (single) and D (double) (R106). -/
inductive TariffMode | single | double
deriving DecidableEq, Repr, Inhabited

/-- The eight status flags (R198). -/
inductive Flag
  | linkNoSlot | linkNoAck | linkNoGrant | inboundDropped | loadError | sensor | clock | tripLost
deriving DecidableEq, Repr, Inhabited

/-- Response codes, in the order of their code numbers 0 to 11 (R194). -/
inductive RespCode
  | ok | refusedState | busy | busyBid | gone | notFound | limit | queueFull | moving | locked | noTariff | bad
deriving DecidableEq, Repr, Inhabited

/-- Results a TEXT_RESULT notice carries (R171, R174). -/
inductive TextResult | delivered | failed | queueFull
deriving DecidableEq, Repr, Inhabited

/-- The kind a TEXT_RESULT notice carries (R171, R174). -/
inductive TextKind | text | reply
deriving DecidableEq, Repr, Inhabited

/-- The generators of the sign driver (11). -/
inductive Lamp | sign | alert
deriving DecidableEq, Repr, Inhabited

/-- The owner of SIGN (R187). -/
inductive SignOwner | meter | openAlert
deriving DecidableEq, Repr, Inhabited

/-! ### Frames toward the part -/

/-- What the receive path checks of a downlink frame: the verdict of its CRC-16, its fleet number, address kind and
address (R19, R20; log 19). -/
structure AirHeader where
  crcOk : Bool
  fleet : Nat
  kind : AddrKind
  addr : Nat
deriving DecidableEq, Repr, Inhabited

/-- One grant of a marker (R2, R205). -/
structure Grant where
  addr : Nat
  tag : Nat
  first : Nat
  count : Nat
deriving DecidableEq, Repr, Inhabited

/-- The contents of a marker (01, Cycles and markers; R205). -/
structure Marker where
  fleet : Nat
  cycle : Nat
  tod : Nat
  day : Nat
  restricted : Bool
  nOpen : Nat
  acks : List (Nat × Nat)
  grants : List Grant
  pages : List Nat
deriving DecidableEq, Repr, Inhabited

/-- A position fix as a POSITION request carries it (R48). -/
structure Fix where
  x : Nat
  y : Nat
  quality : Quality
  age : Nat
deriving DecidableEq, Repr, Inhabited

/-- A zone table entry (R50). -/
structure ZoneEntry where
  zone : Nat
  xMin : Nat
  xMax : Nat
  yMin : Nat
  yMax : Nat
  layer : Nat
  area : Nat
  adjacency : List Nat
deriving DecidableEq, Repr, Inhabited

/-- The contents of an OFFER frame (R61, R62); an empty zone list or note is an absent one (log 23). -/
structure OfferFrame where
  id : Nat
  kind : OfferKind
  zones : List Nat
  adjacentAllowed : Bool
  pickup : Nat
  attrs : Attrs
  jobClass : JobClass
  price : Price
  note : Text
  deadline : Nat
deriving DecidableEq, Repr, Inhabited

/-- The contents of an AWARD frame (R74); `price` is absent when the price mode is none of the three. -/
structure AwardFrame where
  id : Nat
  jobId : JobId
  pickup : Nat
  price : Option Price
  note : Text
deriving DecidableEq, Repr, Inhabited

/-- The contents of a TEXT frame (R165); an unknown priority or reply form is absent. -/
structure TextFrame where
  id : Nat
  priority : Option Priority
  form : Option ReplyForm
  text : Text
deriving DecidableEq, Repr, Inhabited

/-- The items of LOAD (CHANNEL), each present or absent (R197). -/
structure ChannelLoad where
  len : Option Nat
  limitBid : Option Nat
  limitDecline : Option Nat
  limitStatus : Option Nat
  limitText : Option Nat
  limitTrip : Option Nat
  lifeDecline : Option Nat
  lifeStatus : Option Nat
  lifeText : Option Nat
  lifeTrip : Option Nat
deriving DecidableEq, Repr, Inhabited

/-- The mode of a TARIFF ACTIVATE (R133); `unknown` is a mode that is neither NOW nor TIMED. -/
inductive ActivateMode | now | timed (tod : Nat) (days : Nat) | unknown
deriving DecidableEq, Repr, Inhabited

/-- The values SET IDENTITY carries besides the serial (R200). -/
structure Identity where
  fleet : Nat
  addr : Nat
  attrs : Attrs
deriving DecidableEq, Repr, Inhabited

/-- Where a management item came from: the air link, with its frame header, or the cab link, with the request's
number (R195). -/
inductive Source | air (h : AirHeader) | cab (req : Nat)
deriving DecidableEq, Repr, Inhabited

/-- The event at which an attempt settles: a marker frame with its arrival on the local counter, or a missed-marker
event (R15, R17; log 9). -/
inductive Settling | marker (frame : List Byte) (arrival : Nat) | missed
deriving DecidableEq, Repr, Inhabited

/-! ### Tariff images -/

/-- One tariff of an image (R123). -/
structure Tariff where
  number : Nat
  flagfall : Nat
  drop : Nat
  distStep : Nat
  timeStep : Nat
  initial : Nat
  mode : TariffMode
deriving DecidableEq, Repr, Inhabited

/-- One row of the band table (R123). -/
structure BandRow where
  area : Nat
  days : List Nat
  start : Nat
  tariff : Nat
deriving DecidableEq, Repr, Inhabited

/-- One entry of the extras table (R123). -/
structure ExtraDef where
  number : Nat
  amount : Nat
  maxCount : Nat
deriving DecidableEq, Repr, Inhabited

/-- The tables of an image (R123). `defaults` gives the default tariff of areas 0 to 3, in that order. -/
structure Image where
  version : Nat
  length : Nat
  tariffs : List Tariff
  bands : List BandRow
  defaults : List Nat
  extras : List ExtraDef
deriving DecidableEq, Repr, Inhabited

/-! ### Records -/

/-- One entry of a usage list (06). -/
structure UsageEntry where
  tariff : Nat
  area : Nat
  drops : Nat
  start : Nat
deriving DecidableEq, Repr, Inhabited

/-- One extras entry of a trip record (09). -/
structure ExtraEntry where
  number : Nat
  count : Nat
  subtotal : Nat
deriving DecidableEq, Repr, Inhabited

/-- The nine trip flags (09, R205). -/
structure TripFlags where
  saturated : Bool
  fixed : Bool
  capped : Bool
  powerInterrupted : Bool
  clockFree : Bool
  clockUnset : Bool
  pulseClamped : Bool
  distanceSuspect : Bool
  usageTruncated : Bool
deriving DecidableEq, Repr, Inhabited

/-- A trip record (09, Trip records). -/
structure TripRecord where
  number : Nat
  shift : Nat
  jobId : Option JobId
  price : Price
  imageVersion : Nat
  startTod : Nat
  startDay : Nat
  endTod : Nat
  startZone : Nat
  endZone : Nat
  distance : Nat
  waiting : Nat
  hiredSeconds : Nat
  metered : Nat
  extras : List ExtraEntry
  extrasTotal : Nat
  charged : Nat
  usage : List UsageEntry
  flags : TripFlags
  delivery : Delivery
deriving DecidableEq, Repr, Inhabited

/-- The sums of a shift (R159 to R161). -/
structure ShiftSums where
  trips : Nat
  hired : Nat
  vacant : Nat
  waiting : Nat
  charged : Nat
  extras : Nat
  fixedTrips : Nat
  cappedTrips : Nat
deriving DecidableEq, Repr, Inhabited

/-- A shift summary (R161). -/
structure ShiftSummary where
  number : Nat
  startTod : Nat
  startDay : Nat
  endTod : Nat
  sums : ShiftSums
deriving DecidableEq, Repr, Inhabited

/-- The lifetime totalizers with their residuals (R157). -/
structure Totalizers where
  distance : Nat
  hired : Nat
  hires : Nat
  fares : Nat
  distResidual : Nat
  metreResidual : Nat
deriving DecidableEq, Repr, Inhabited

/-- The eight status flags as they stand (R198). -/
structure StatusFlags where
  linkNoSlot : Bool
  linkNoAck : Bool
  linkNoGrant : Bool
  inboundDropped : Bool
  loadError : Bool
  sensor : Bool
  clock : Bool
  tripLost : Bool
deriving DecidableEq, Repr, Inhabited

/-- The contents of a link fault record (R43). -/
structure LinkFault where
  hard : Bool
  kind : Kind
  cls : AccessClass
  tag : Nat
  source : Option Nat
  cause : Cause
  attempts : Nat
  cycle : Nat
  second : Bool
deriving DecidableEq, Repr, Inhabited

/-- An inbound message (10). -/
structure Message where
  id : Nat
  origin : Origin
  priority : Priority
  form : ReplyForm
  text : Text
  arrival : Nat
  state : MessageState
  held : Bool
deriving DecidableEq, Repr, Inhabited

/-- An offer entry (R61). An empty zone list or note is an absent one. -/
structure Offer where
  id : Nat
  kind : OfferKind
  zones : List Nat
  adjacentAllowed : Bool
  pickup : Nat
  attrs : Attrs
  jobClass : Option JobClass
  price : Price
  note : Text
  deadline : Nat
  state : OfferState
  closeReason : Option CloseReason
  withdrawReason : Option WithdrawReason
  jobId : Option JobId
deriving DecidableEq, Repr, Inhabited

/-- When a pending activation falls due (R133): at once, or at a time-of-day after some midnights. -/
inductive ActivationTime | now | timed (tod : Nat) (days : Nat)
deriving DecidableEq, Repr, Inhabited

/-- A pending activation (07). -/
structure PendingActivation where
  version : Nat
  time : ActivationTime
  due : Bool
deriving DecidableEq, Repr, Inhabited

/-! ### What queries report -/

/-- The status contents of READ_STATUS and QUERY STATUS (R196). -/
structure StatusReport where
  fleet : Nat
  addr : Nat
  attrs : Attrs
  acq : AcqState
  cycle : Nat
  meter : MeterState
  zone : Nat
  stale : Bool
  age : Nat
  flags : StatusFlags
  summary : Bool
  fault : Option LinkFault
  emergency : EmergencyState
  sequence : Nat
  openAlert : Bool
  clock : ClockState
  tod : Nat
  day : Nat
  trim : Int
deriving DecidableEq, Repr, Inhabited

/-- The trip part of the answer to QUERY METER (R103). -/
structure MeterTripReport where
  number : Nat
  shift : Nat
  startTod : Nat
  startDay : Nat
  startZone : Nat
  imageVersion : Nat
  jobId : Option JobId
  price : Price
  extras : List (Nat × Nat)
  powerInterrupted : Bool
  clockFree : Bool
  clockUnset : Bool
  pulseClamped : Bool
  distanceSuspect : Bool
  tariff : Nat
  metered : Nat
  charged : Nat
deriving DecidableEq, Repr, Inhabited

/-- The answer to QUERY METER (R103). -/
structure MeterReport where
  state : MeterState
  motion : Motion
  awarded : Option Nat
  k : Nat
  calEvents : Nat
  trip : Option MeterTripReport
deriving DecidableEq, Repr, Inhabited

/-- One item of the answer to QUERY OFFERS (R80). -/
structure OfferItem where
  id : Nat
  kind : OfferKind
  state : OfferState
  closeReason : Option CloseReason
  withdrawReason : Option WithdrawReason
  deadline : Nat
  award : Option (Option JobId × Price)
deriving DecidableEq, Repr, Inhabited

/-- The answer to QUERY TARIFF (R132). -/
structure TariffReport where
  activeVersion : Nat
  staging : StagingState
  stagingVersion : Option Nat
  pageCount : Option Nat
  pending : Option PendingActivation
  swapInFlight : Bool
  missingCount : Nat
  missingList : List Nat
deriving DecidableEq, Repr, Inhabited

/-- The four lifetime totalizers, without their residuals (R157, R163). -/
structure LifetimeTotals where
  distance : Nat
  hired : Nat
  hires : Nat
  fares : Nat
deriving DecidableEq, Repr, Inhabited

/-- The shift totals as QUERY TOTALS reports them: every item of R159's table (R163). -/
structure ShiftReport where
  number : Nat
  startTod : Nat
  startDay : Nat
  sums : ShiftSums
  residual : Nat
deriving DecidableEq, Repr, Inhabited

/-- The answer to QUERY TOTALS (R163). -/
structure TotalsReport where
  totals : LifetimeTotals
  shift : Option ShiftReport
  summary : Option (ShiftSummary × SummaryState)
  tripCounter : Nat
  records : Nat
  oldest : Option Nat
  newest : Option Nat
  undelivered : Nat
  queued : Nat
deriving DecidableEq, Repr, Inhabited

/-- The answer to a query (R196); a trip that the log does not hold is absent (R156). -/
inductive QueryAnswer
  | status (r : StatusReport) | meter (r : MeterReport) | offers (items : List OfferItem)
  | tariff (r : TariffReport) | totals (r : TotalsReport) | trip (r : Option TripRecord)
deriving DecidableEq, Repr, Inhabited

/-! ### Frames from the part -/

/-- What a BEACON carries (R178). -/
structure BeaconBody where
  addr : Nat
  sequence : Nat
  state : EmergencyState
  meter : MeterState
  charged : Nat
  tripStart : Option Nat
  zone : Nat
  stale : Bool
  x : Nat
  y : Nat
  age : Nat
deriving DecidableEq, Repr, Inhabited

/-- What a CANCEL carries (R178). -/
structure CancelBody where
  addr : Nat
  sequence : Nat
  state : EmergencyState
  meter : MeterState
  zone : Nat
  stale : Bool
deriving DecidableEq, Repr, Inhabited

/-- What a STATUS carries (R102). -/
structure StatusBody where
  meter : MeterState
  zone : Nat
  stale : Bool
  age : Nat
  awarded : Option Nat
  summary : Bool
deriving DecidableEq, Repr, Inhabited

/-- The contents of an uplink body, one constructor for each kind (R68, R75, R102, R156, R161, R169, R170, R173, R178). -/
inductive Body
  | beacon (b : BeaconBody)
  | cancel (b : CancelBody)
  | bid (id zone : Nat) (stale : Bool) (age : Nat)
  | awardDecline (id : Nat) (jobId : JobId) (meter : MeterState)
  | status (b : StatusBody)
  | text (id : Nat) (canned : Option Nat) (text : Text)
  | messageReply (id : Nat) (form : ReplyForm) (answer : Answer)
  | readReceipt (id tod : Nat)
  | reply (a : QueryAnswer)
  | trip (r : TripRecord)
  | shiftSummary (s : ShiftSummary)
deriving DecidableEq, Repr, Inhabited

/-- What a burst is besides its header fields: one part of a body, or a reservation request (R12). -/
inductive BurstPart
  | data (part count : Nat)
  | reservation (slots : Nat)
deriving DecidableEq, Repr, Inhabited

/-- One burst released to the modem, with its slot (R11, R12). -/
structure Burst where
  slot : Nat
  fleet : Nat
  addr : Nat
  tag : Nat
  kind : Kind
  cls : AccessClass
  longWait : Bool
  part : BurstPart
  bytes : List Byte
deriving DecidableEq, Repr, Inhabited

/-- What a response carries besides its code. -/
inductive RespBody
  | none
  | outboundId (id : Nat)
  | message (m : Message)
  | answer (a : QueryAnswer)
deriving DecidableEq, Repr, Inhabited

/-- The further items of an OFFER_STATE notice (R66). -/
structure OfferStateBody where
  id : Nat
  state : OfferState
  reason : Option CloseReason
  newDeadline : Option Nat
  withdrawReason : Option WithdrawReason
  bidNotSent : Bool
  award : Option (Option JobId × Nat × Price × Text)
deriving DecidableEq, Repr, Inhabited

/-- An OFFER notice (R66). -/
structure OfferBody where
  id : Nat
  kind : OfferKind
  pickup : Nat
  jobClass : Option JobClass
  price : Price
  note : Text
  deadline : Nat
  state : OfferState
deriving DecidableEq, Repr, Inhabited

/-- The trip part of a METER notice: of the price, the mode alone (R94). -/
structure MeterTripBody where
  number : Nat
  mode : PriceMode
  tariff : Nat
  metered : Nat
  extrasTotal : Nat
  charged : Nat
deriving DecidableEq, Repr, Inhabited

/-- The six kinds of notice (R194). -/
inductive NoticeBody
  | offer (b : OfferBody)
  | offerState (b : OfferStateBody)
  | meter (state : MeterState) (awarded : Option Nat) (trip : Option MeterTripBody)
  | message (m : Message)
  | textResult (kind : TextKind) (id : Nat) (result : TextResult)
  | link (acq : AcqState) (cycle : Nat)
deriving DecidableEq, Repr, Inhabited

/-- An item of the outbound list: a response with its request's number and item code, or a notice (R193). -/
inductive Outbound
  | response (req item : Nat) (code : RespCode) (body : RespBody)
  | notice (body : NoticeBody) (overflow : Bool)
deriving DecidableEq, Repr, Inhabited

/-! ### Requests of the terminal -/

/-- The items that a request names, in the order of their codes 1 to 22 (12, item codes). -/
inductive Item
  | position | onDuty | offDuty | hire | stop | resume | close | extra | jobCancel | setCalibration | accept | decline
  | readMessage | replyMessage | sendCanned | sendText | emergencyCancel | setSignPattern | readStatus | query | clearFaults
  | terminalRestart
deriving DecidableEq, Repr, Inhabited

/-- The subjects of a QUERY (R196). -/
inductive Subject | status | meter | offers | tariff | totals | trip
deriving DecidableEq, Repr, Inhabited

/-- What the body of a request spells: each parameter that an item may need, absent where the body lacks it or has it in
another form (R191; log 19, 20). -/
structure RequestBody where
  /-- The fix of a POSITION. -/
  fix : Option Fix
  /-- The number of an EXTRA, K, an offer id, a message id, a canned index, a trip number. -/
  number : Option Nat
  /-- The message id and the answer of a REPLY_MESSAGE. -/
  answer : Option (Nat × Answer)
  /-- The text of a SEND_TEXT. -/
  text : Option Text
  /-- The meter state of a SET_SIGN_PATTERN, absent when it is none of the six. -/
  state : Option MeterState
  /-- The on time and the off time of a SET_SIGN_PATTERN. -/
  times : Option (Nat × Nat)
  /-- The subject of a QUERY, absent when it is unknown. -/
  subject : Option Subject
  /-- The flags of a CLEAR FAULTS. -/
  flags : Option (List Flag)
  /-- The record option of a CLEAR FAULTS. -/
  record : Bool
deriving DecidableEq, Repr, Inhabited

/-! ### The commands -/

/-- The commands of the part. An operand `req` is a request number; an `Option` operand of a request is absent when the
request's body lacks it or it is not of the item's form (R191; log 20). -/
inductive Instr
  /-- MARKER (R1): a marker frame as demodulated, and its arrival on the local counter. -/
  | marker (frame : List Byte) (arrival : Nat)
  /-- MISSED_MARKER_EVENT (R1): the cycle timer expires. -/
  | missedMarkerEvent
  /-- HOLDOVER_TIMEOUT (R6): the 8th consecutive missed marker. -/
  | holdoverTimeout
  /-- SLOT_START (R11): a slot of the cycle starts. -/
  | slotStart (slot : Nat)
  /-- GRANT_WAIT_EXPIRY (R15), at the event given. -/
  | grantWaitExpiry (at_ : Settling)
  /-- ACK_WINDOW_EXPIRY (R17). -/
  | ackWindowExpiry
  /-- PARKED_TIMEOUT (R23). -/
  | parkedTimeout
  /-- DOWNLINK_FRAME_DROPPED (R19): a frame of the kind code given that the receive path does not take. -/
  | downlinkFrameDropped (h : AirHeader) (kind : Nat)
  /-- IGNITION_ON (R25). -/
  | ignitionOn
  /-- IGNITION_OFF (R22). -/
  | ignitionOff
  /-- IGNITION_OFF_TICK (R22): a whole second with the ignition off. -/
  | ignitionOffTick
  /-- EMERGENCY_HOLD_RESOLVE (R32), at the event at which the SENT emergency entry settles. -/
  | emergencyHoldResolve (at_ : Settling)
  /-- ENTRY_LIFETIME_EXPIRY (R39): the queue takes a cycle start. -/
  | entryLifetimeExpiry
  /-- POSITION (R48). -/
  | position (req : Nat) (fix : Option Fix)
  /-- STALENESS_TIMEOUT (R56). -/
  | stalenessTimeout
  /-- LOAD_ZONES (R51). -/
  | loadZones (h : AirHeader) (first : Nat) (entries : List ZoneEntry)
  /-- LOAD_GROUPS (R20). -/
  | loadGroups (h : AirHeader) (groups : List Nat)
  /-- LOAD_CANNED (R172). -/
  | loadCanned (h : AirHeader) (first : Nat) (entries : List Text)
  /-- LOAD_CHANNEL (R197). -/
  | loadChannel (h : AirHeader) (items : ChannelLoad)
  /-- OFFER (R64). -/
  | offer (h : AirHeader) (f : OfferFrame)
  /-- ACCEPT (R67). -/
  | accept (req : Nat) (id : Option Nat)
  /-- DECLINE (R70). -/
  | decline (req : Nat) (id : Option Nat)
  /-- OFFER_DEADLINE (R71): the offer table takes a cycle start for its PRESENTED and ACCEPTED entries. -/
  | offerDeadline
  /-- AWARD_WAIT_END (R72): the offer table takes a cycle start for its BID_SENT entries. -/
  | awardWaitEnd
  /-- WITHDRAW (R73); an unknown reason is absent. -/
  | withdraw (h : AirHeader) (id : Nat) (reason : Option WithdrawReason)
  /-- AWARD (R74). -/
  | award (h : AirHeader) (f : AwardFrame)
  /-- ON_DUTY (R84). -/
  | onDuty (req : Nat)
  /-- OFF_DUTY (R85). -/
  | offDuty (req : Nat)
  /-- HIRE (R86). -/
  | hire (req : Nat)
  /-- HELD_REQUEST_TAKEN (R87): the completion of a swap that finds a request held. -/
  | heldRequestTaken
  /-- STOP (R88). -/
  | stop (req : Nat)
  /-- RESUME (R89). -/
  | resume (req : Nat)
  /-- CLOSE (R90). -/
  | close (req : Nat)
  /-- EXTRA (R91). -/
  | extra (req : Nat) (number : Option Nat)
  /-- JOB_CANCEL (R92). -/
  | jobCancel (req : Nat)
  /-- SET_CALIBRATION (R100), with the calibration-enable line as it stands at the event. -/
  | setCalibration (req : Nat) (k : Option Nat) (line : Bool)
  /-- CALIBRATION_WRITE_COMPLETE (R101). -/
  | calibrationWriteComplete
  /-- DISTANCE_PULSE (R95). -/
  | distancePulse
  /-- METER_SECOND (R142). -/
  | meterSecond
  /-- MOTION_STOPPED (R97). -/
  | motionStopped
  /-- PLAUSIBILITY_EVALUATION (R99). -/
  | plausibilityEvaluation
  /-- CLOCK_FREE_TIMEOUT (R142). -/
  | clockFreeTimeout
  /-- TRIM_EVALUATION (R146): the marker that completes the trim window. -/
  | trimEvaluation (frame : List Byte) (arrival : Nat)
  /-- TRIM_WRITE_COMPLETE (R147). -/
  | trimWriteComplete
  /-- TARIFF_BEGIN (R126). -/
  | tariffBegin (h : AirHeader) (version pageCount : Nat) (crc : Crc)
  /-- CLEAR_COMPLETE (R127). -/
  | clearComplete
  /-- TARIFF_PAGE (R128). -/
  | tariffPage (h : AirHeader) (version index : Nat) (bytes : List Byte)
  /-- PAGE_WRITE_COMPLETE (R129). -/
  | pageWriteComplete
  /-- TARIFF_ACTIVATE (R133). -/
  | tariffActivate (h : AirHeader) (version : Nat) (mode : ActivateMode)
  /-- TARIFF_ABANDON (R139). -/
  | tariffAbandon (h : AirHeader)
  /-- ACTIVATION_DUE (R134). -/
  | activationDue
  /-- SWAP_BEGIN (R136). -/
  | swapBegin
  /-- SWAP_COMPLETE (R136). -/
  | swapComplete
  /-- LOG_UPDATE_BEGIN (R153). -/
  | logUpdateBegin
  /-- LOG_UPDATE_COMPLETE (R153). -/
  | logUpdateComplete
  /-- TEXT (R165). -/
  | text (h : AirHeader) (f : TextFrame)
  /-- HELD_MESSAGES_RELEASE (R168). -/
  | heldMessagesRelease
  /-- READ_MESSAGE (R169). -/
  | readMessage (req : Nat) (id : Option Nat)
  /-- REPLY_MESSAGE (R170). -/
  | replyMessage (req : Nat) (answer : Option (Nat × Answer))
  /-- SEND_CANNED (R173). -/
  | sendCanned (req : Nat) (index : Option Nat)
  /-- SEND_TEXT (R173). -/
  | sendText (req : Nat) (text : Option Text)
  /-- SWITCH_PRESS (R176). -/
  | switchPress
  /-- SWITCH_RELEASE (R176). -/
  | switchRelease
  /-- HOLD_TIMER_EXPIRY (R177). -/
  | holdTimerExpiry
  /-- EMERGENCY_FRAME_DUE (R179): the emergency unit takes a cycle start. -/
  | emergencyFrameDue
  /-- EMERGENCY_ACK (R182). -/
  | emergencyAck (h : AirHeader) (sequence : Nat)
  /-- EMERGENCY_CANCEL (R183). -/
  | emergencyCancel (req : Nat)
  /-- OPEN_ALERT (R184). -/
  | openAlert (h : AirHeader) (sequence : Nat)
  /-- EMERGENCY_CLEAR (R185). -/
  | emergencyClear (h : AirHeader) (sequence : Nat)
  /-- PATTERN_PHASE_END (R187). -/
  | patternPhaseEnd (lamp : Lamp)
  /-- SET_SIGN_PATTERN (R188); a request that names no meter state of the six has none. -/
  | setSignPattern (req : Nat) (state : Option MeterState) (times : Option (Nat × Nat))
  /-- SIGN_PATTERN_WRITE_COMPLETE (R188). -/
  | signPatternWriteComplete
  /-- ENVELOPE_DISCARDED (R191): the bytes of an envelope from the terminal. -/
  | envelopeDiscarded (bytes : List Byte)
  /-- UNKNOWN_ITEM_CODE (R191). -/
  | unknownItemCode (req code : Nat)
  /-- AIR_ITEM_ON_CAB_LINK (R195), with the item's code 32 to 41. -/
  | airItemOnCabLink (req code : Nat)
  /-- CAB_ITEM_ON_AIR_LINK (R195). -/
  | cabItemOnAirLink (h : AirHeader) (code : Nat)
  /-- OUTBOUND_TRANSMITTED (R193). -/
  | outboundTransmitted
  /-- READ_STATUS (R196). -/
  | readStatus (req : Nat)
  /-- QUERY_STATUS (R196). -/
  | queryStatus (src : Source)
  /-- QUERY_METER (R103). -/
  | queryMeter (src : Source)
  /-- QUERY_OFFERS (R80). -/
  | queryOffers (src : Source)
  /-- QUERY_TARIFF (R132). -/
  | queryTariff (src : Source)
  /-- QUERY_TOTALS (R163). -/
  | queryTotals (src : Source)
  /-- QUERY_TRIP (R156). -/
  | queryTrip (src : Source) (number : Option Nat)
  /-- CLEAR_FAULTS (R199); a set that is not drawn from the eight flags is absent. -/
  | clearFaults (src : Source) (flags : Option (List Flag)) (record : Bool)
  /-- SET_IDENTITY (R200). -/
  | setIdentity (h : AirHeader) (serial : BitVec 32) (identity : Identity)
  /-- IDENTITY_WRITE_COMPLETE (R200). -/
  | identityWriteComplete
  /-- FLEET_RESTART (R201). -/
  | fleetRestart (h : AirHeader)
  /-- TERMINAL_RESTART (R202). -/
  | terminalRestart (req : Nat)
  /-- COLD_START_UP (R203): power returns and the supply mark has not held; with the ignition and switch lines as found. -/
  | coldStartUp (ignition switch : Bool)
  /-- WARM_START_UP (R203): power returns and the retained domain is as it was kept; with the ignition and switch lines as
  found. -/
  | warmStartUp (ignition switch : Bool)
  /-- QUERY_UNKNOWN_SUBJECT (R196). -/
  | queryUnknownSubject (src : Source)
deriving DecidableEq, Repr, Inhabited

end Sys2Proof
end

