-- ==== Sys2Proof/Config.lean ====
section
/-! DEFINITION. What the spec leaves open, as free values: constants without a body, so that no proof can see what they
are and a statement holds whatever they are. Each is applied to the operands it depends on or to the counter `draws` of
the state, which gives a fresh value each time. -/

namespace Sys2Proof

/-- The backoff draws (R9): the n-th draw. The model takes it modulo W, so it lies in 0 to W - 1 (log 5). -/
opaque Config.backoffDraw : Nat → Nat

/-- Whether the n-th nonvolatile write that a power loss interrupted had come far enough to hold its new value
(R101, R140, R147, R153, R188, R200; log 6). -/
opaque Config.writeLanded : Nat → Bool

/-- How many bytes a body of an unstated layout has; the model brings it into the range of its kind (02, table; log 7). -/
opaque Config.bodyLength : Body → Nat

/-- The byte at a place of a body of an unstated layout (log 7). -/
opaque Config.bodyByte : Body → Nat → Byte

/-- The tables that the bytes of an image spell: the layout is agreed between the base and the part and is not in the
spec (07, The image; log 8). -/
opaque Config.readImage : List Byte → Image

/-- What the body of a request spells for an item code: R205 gives the envelope's layout and none of its body (log 19). -/
opaque Config.readRequest : Nat → List Byte → RequestBody

/-- The rank of a block in the n-th handing of a terminal restart to the blocks (R202: the order is not fixed; log 18). -/
opaque Config.restartRank : Nat → Nat → Nat

end Sys2Proof
end

