-- ==== Sys2Proof/Machine/State.lean ====
section
/-! DEFINITION. The state of the part, as plain data: every item of every block's state table, the input lines, and the
queue of waiting commands; and the state right after reset. -/

namespace Sys2Proof.Machine

/-! ### Channel controller (01) -/

/-- A pair of the cycle schedule: a slot and the entry it serves, by the entry's identity (log 14). -/
structure SlotUse where
  slot : Nat
  uid : Nat
  granted : Bool
deriving DecidableEq, Repr, Inhabited

/-- State of the channel controller (01, state table). Times are in microseconds of the local counter. -/
structure Controller where
  acq : AcqState
  cycle : Nat
  expected : Nat
  timer : Nat
  inSeq : Nat
  missed : Nat
  nOpen : Nat
  restricted : Bool
  schedule : List SlotUse
  groups : List Nat
  pageHold : Nat
  offTime : Nat
  len : Nat
deriving DecidableEq, Repr, Inhabited

/-! ### Uplink queue and frame store (02) -/

/-- An uplink entry (02, Entries). Its kind and class follow from its body; `size` is the body's byte count; `uid` is the
model's own identity of the entry for its life (log 14). -/
structure Entry where
  body : Body
  source : Option Nat
  size : Nat
  granules : List Nat
  tag : Nat
  st : EntryState
  attempts : Nat
  lastCause : Option Cause
  window : Nat
  counter : Nat
  ackWindow : Nat
  grantWait : Nat
  queuedAt : Nat
  expiry : Option Nat
  mark : Option CloseOut
  uid : Nat
deriving DecidableEq, Repr, Inhabited

/-- The queue's state (02): the entries in queue order, the tag pointer, the emergency hold, the link fault record, and the
frame store: the bytes last written into each of the granules 0 to 127 (R30; log 42). -/
structure Queue where
  entries : List Entry
  tagPtr : Nat
  hold : Option Body
  fault : Option LinkFault
  nextUid : Nat
  store : List (List Byte)
deriving DecidableEq, Repr, Inhabited

/-! ### Zone resolver (03) -/

/-- State of the zone resolver (03, state table). -/
structure Resolver where
  table : List (Option ZoneEntry)
  lastFix : Option (Nat × Nat)
  age : Nat
  cand : Option Nat
  zone : Nat
  timer : Nat
  stale : Bool
  area : Nat
deriving DecidableEq, Repr, Inhabited

/-! ### Meter and fare engine (05, 06) -/

/-- The fare accounts of an open trip (06, state table). -/
structure Fare where
  tariff : Nat
  flagfall : Nat
  drop : Nat
  distStep : Nat
  timeStep : Nat
  initial : Nat
  mode : TariffMode
  wp : Nat
  ws : Nat
  q : Nat
  q1 : Nat
  threshold : Nat
  progress : Nat
  firstDrop : Bool
  metered : Nat
  usage : List UsageEntry
  hiredPulses : Nat
  hiredSeconds : Nat
  waitingSeconds : Nat
  extrasTotal : Nat
  charged : Nat
  saturated : Bool
  fixed : Bool
  capped : Bool
  usageTruncated : Bool
deriving DecidableEq, Repr, Inhabited

/-- An open trip (05, The open trip). The job binding is the job id with the price mode and value. -/
structure Trip where
  number : Nat
  shift : Nat
  startTod : Nat
  startDay : Nat
  startZone : Nat
  imageVersion : Nat
  jobId : Option JobId
  price : Price
  extras : List (Nat × Nat)
  powerInterrupted : Bool
  clockFree : Bool
  clockUnset : Bool
  pulseClamped : Bool
  distanceSuspect : Bool
  fare : Fare
deriving DecidableEq, Repr, Inhabited

/-- The plausibility window (R98). -/
structure PlausWindow where
  seconds : Nat
  pulses : Nat
  first : Option (Nat × Nat)
  last : Option (Nat × Nat)
  fixes : Nat
deriving DecidableEq, Repr, Inhabited

/-- State of the meter (05, state table); `calWrite` is the K of a calibration write in flight (R101). -/
structure Meter where
  state : MeterState
  awarded : Option Nat
  trip : Option Trip
  count : Nat
  motion : Motion
  zeroRun : Nat
  window : PlausWindow
  held : Option HeldRequest
  k : Nat
  calEvents : Nat
  calWrite : Option Nat
deriving DecidableEq, Repr, Inhabited

/-! ### Tariff store (07) -/

/-- A nonvolatile bank: 32 pages of 64 bytes, each absent where it holds no data; the tables read from it when its image
was checked; and that image's page count and CRC (R123, R125, R137; log 35). -/
structure Bank where
  pages : List (Option (List Byte))
  image : Option Image
  count : Option Nat
  crc : Option Crc
deriving DecidableEq, Repr, Inhabited

/-- State of the tariff store (07, state table); `oneActive` says that bank 1 is the ACTIVE one. -/
structure TariffStore where
  oneActive : Bool
  bank0 : Bank
  bank1 : Bank
  activeVersion : Nat
  staging : StagingState
  loadVersion : Option Nat
  pageCount : Option Nat
  imageCrc : Option Crc
  activation : Option PendingActivation
  missing : List Nat
  buffer : Option (Nat × List Byte)
  activity : StoreActivity
  lastTod : Option Nat
deriving DecidableEq, Repr, Inhabited

/-! ### Time base (08) -/

/-- The trim window (R145). -/
structure TrimWindow where
  start : Nat
  lastCycle : Nat
  count : Nat
  len : Nat
deriving DecidableEq, Repr, Inhabited

/-- State of the time base (08, state table). `trimNv` is the nonvolatile trim and `trimWrite` a write of it in flight
(R147); `secondEnd` is the local counter at which the meter second under way ends (R142). -/
structure TimeBase where
  state : ClockState
  tod : Nat
  day : Nat
  silence : Nat
  trim : Int
  trimNv : Int
  trimWrite : Option Int
  window : Option TrimWindow
  local_ : Nat
  secondEnd : Nat
deriving DecidableEq, Repr, Inhabited

/-! ### Trip log and totals (09) -/

/-- One change of a log update (R153). -/
inductive LogChange
  /-- A closed record with its eviction, the counter, and a copy of the totalizers (R152). -/
  | closed (record : TripRecord) (evict : Bool) (counter : Nat) (totals : Totalizers)
  /-- A DELIVERED mark (R155). -/
  | delivered (number : Nat)
  /-- A shift number (R159). -/
  | shiftNumber (number : Nat)
  /-- A copy of the totalizers (R158). -/
  | totals (copy : Totalizers)
deriving DecidableEq, Repr, Inhabited

/-- The nonvolatile contents of the log as the last completed update left them (R153, R158). -/
structure LogStore where
  records : List TripRecord
  tripCounter : Nat
  shiftCounter : Nat
  totals : Totalizers
deriving DecidableEq, Repr, Inhabited

/-- The open shift (R159): its number, start, sums, and vacant residual. -/
structure Shift where
  number : Nat
  startTod : Nat
  startDay : Nat
  sums : ShiftSums
  residual : Nat
deriving DecidableEq, Repr, Inhabited

/-- State of the trip log and totals (09, state table). -/
structure TripLog where
  records : List TripRecord
  tripCounter : Nat
  shiftCounter : Nat
  totals : Totalizers
  shift : Option Shift
  summary : Option (ShiftSummary × SummaryState)
  nv : LogStore
  inFlight : Option (List LogChange)
  waiting : List LogChange
deriving DecidableEq, Repr, Inhabited

/-! ### Message store (10) -/

/-- State of the message store (10, state table). An empty text is an empty canned entry. -/
structure MessageStore where
  inbox : List Message
  canned : List Text
  outId : Nat
  motion : Motion
deriving DecidableEq, Repr, Inhabited

/-! ### Emergency unit and sign driver (11) -/

/-- State of the emergency unit (11, state table). -/
structure EmergencyUnit where
  state : EmergencyState
  ret : Option ReturnState
  sequence : Nat
  openAlert : Bool
  nextFrame : Option Nat
  holdRunning : Bool
deriving DecidableEq, Repr, Inhabited

/-- An on time and an off time in units of 100 ms (R187). -/
structure Pattern where
  on : Nat
  off : Nat
deriving DecidableEq, Repr, Inhabited

/-- A pattern generator: its pattern, whether it is in its ON phase, and the length of that phase (R187). -/
structure Generator where
  pattern : Pattern
  phaseOn : Bool
  timer : Nat
deriving DecidableEq, Repr, Inhabited

/-- The sign pattern table (R188). -/
structure SignTable where
  offDuty : Pattern
  vacant : Pattern
  assigned : Pattern
  hired : Pattern
  payable : Pattern
  suspended : Pattern
deriving DecidableEq, Repr, Inhabited

/-- State of the sign driver (11, state table); `write` is a table entry whose nonvolatile write is in flight (R188). -/
structure SignDriver where
  table : SignTable
  sign : Generator
  owner : SignOwner
  alert : Generator
  write : Option (MeterState × Pattern)
deriving DecidableEq, Repr, Inhabited

/-! ### Management unit and cab link port (12) -/

/-- The channel parameter table (R35, R46, R197). -/
structure ChannelParams where
  len : Nat
  limitBid : Nat
  limitDecline : Nat
  limitStatus : Nat
  limitText : Nat
  limitTrip : Nat
  lifeDecline : Nat
  lifeStatus : Nat
  lifeText : Nat
  lifeTrip : Nat
deriving DecidableEq, Repr, Inhabited

/-- State of the management unit (12, state table), with what R203 has it check at power return: that the supply mark has
held, and that the check word agrees with the contents of the retained domain (log 26). -/
structure Management where
  serial : BitVec 32
  identity : Identity
  idWrite : Option Identity
  flags : StatusFlags
  params : ChannelParams
  supplyMark : Bool
  checkAgrees : Bool
deriving DecidableEq, Repr, Inhabited

/-- The outstanding request (R192), and whether a terminal restart has made its answer one to discard (R202). -/
structure Outstanding where
  req : Nat
  item : Nat
  discard : Bool
deriving DecidableEq, Repr, Inhabited

/-- State of the cab link port (12, state table). -/
structure CabPort where
  outstanding : Option Outstanding
  outbound : List Outbound
  overflow : Bool
deriving DecidableEq, Repr, Inhabited

/-- The discrete input lines with a level (00, Interfaces). -/
structure Lines where
  ignition : Bool
  switch : Bool
  calEnable : Bool
deriving DecidableEq, Repr, Inhabited

/-- The blocks that have been signalled a cycle start and have not taken it yet: the uplink queue (R39), the offer table
for deadlines (R71) and for award waits (R72), and the emergency unit (R179); log 10. -/
structure CycleSignals where
  queue : Bool
  deadlines : Bool
  awardWaits : Bool
  emergency : Bool
deriving DecidableEq, Repr, Inhabited

/-- The whole part: its blocks, lines and links. -/
structure Part where
  /-- The channel controller (01). -/
  ctl : Controller
  /-- The uplink queue and frame store (02). -/
  queue : Queue
  /-- The zone resolver (03). -/
  zones : Resolver
  /-- The offer table, in order of creation (R61). -/
  offers : List Offer
  /-- The meter with the open trip (05, 06). -/
  meter : Meter
  /-- The tariff store (07). -/
  tariff : TariffStore
  /-- The time base (08). -/
  clock : TimeBase
  /-- The trip log and totals (09). -/
  log : TripLog
  /-- The message store (10). -/
  msgs : MessageStore
  /-- The emergency unit (11). -/
  emg : EmergencyUnit
  /-- The sign driver (11). -/
  sign : SignDriver
  /-- The management unit (12). -/
  mgmt : Management
  /-- The cab link port (12). -/
  port : CabPort
  /-- The input lines (00, Interfaces). -/
  lines : Lines
  /-- The bursts last released to the modem (R11; log 15). -/
  air : List Burst
  /-- The cycle starts signalled and not yet taken (R1; log 10). -/
  sig : CycleSignals
  /-- How many free values have been read (log 5). -/
  draws : Nat
deriving DecidableEq, Repr, Inhabited

/-- The state of the machine: the part, and the commands that wait for it, first in, first out. -/
structure State where
  part : Part
  pending : List Instr
deriving DecidableEq, Repr, Inhabited

/-! ### Updates of one block -/

/-- Update the channel controller (01). -/
def Part.setCtl (p : Part) (v : Controller) : Part := { p with ctl := v }

/-- Update the uplink queue and frame store (02). -/
def Part.setQueue (p : Part) (v : Queue) : Part := { p with queue := v }

/-- Update the zone resolver (03). -/
def Part.setZones (p : Part) (v : Resolver) : Part := { p with zones := v }

/-- Update the offer table, in order of creation (R61). -/
def Part.setOffers (p : Part) (v : List Offer) : Part := { p with offers := v }

/-- Update the meter with the open trip (05, 06). -/
def Part.setMeter (p : Part) (v : Meter) : Part := { p with meter := v }

/-- Update the tariff store (07). -/
def Part.setTariff (p : Part) (v : TariffStore) : Part := { p with tariff := v }

/-- Update the time base (08). -/
def Part.setClock (p : Part) (v : TimeBase) : Part := { p with clock := v }

/-- Update the trip log and totals (09). -/
def Part.setLog (p : Part) (v : TripLog) : Part := { p with log := v }

/-- Update the message store (10). -/
def Part.setMsgs (p : Part) (v : MessageStore) : Part := { p with msgs := v }

/-- Update the emergency unit (11). -/
def Part.setEmg (p : Part) (v : EmergencyUnit) : Part := { p with emg := v }

/-- Update the sign driver (11). -/
def Part.setSign (p : Part) (v : SignDriver) : Part := { p with sign := v }

/-- Update the management unit (12). -/
def Part.setMgmt (p : Part) (v : Management) : Part := { p with mgmt := v }

/-- Update the cab link port (12). -/
def Part.setPort (p : Part) (v : CabPort) : Part := { p with port := v }

/-- Update the input lines (00, Interfaces). -/
def Part.setLines (p : Part) (v : Lines) : Part := { p with lines := v }

/-- Update the bursts last released to the modem (R11; log 15). -/
def Part.setAir (p : Part) (v : List Burst) : Part := { p with air := v }

/-- Update the cycle starts signalled and not yet taken (R1; log 10). -/
def Part.setSig (p : Part) (v : CycleSignals) : Part := { p with sig := v }

/-- Update how many free values have been read (log 5). -/
def Part.setDraws (p : Part) (v : Nat) : Part := { p with draws := v }

/-! ### Ways to stop -/

/-- The part has no fault: no command stops it. No meaning answers with one. -/
inductive Fault
deriving DecidableEq, Repr

/-- Refusals. -/
inductive Refusal
  /-- Raised by an arm of `exec` whose command has no meaning yet, and by nothing else; safe. No arm raises it. -/
  | notModelled (mnemonic : String)
deriving DecidableEq, Repr

/-! ### Reset -/

/-- The factory sign pattern table (R188). -/
def SignTable.factory : SignTable where
  offDuty := ⟨0, 0⟩
  vacant := ⟨10, 0⟩
  assigned := ⟨0, 0⟩
  hired := ⟨0, 0⟩
  payable := ⟨0, 0⟩
  suspended := ⟨5, 5⟩

/-- The default channel parameters (R35, R197). -/
def ChannelParams.defaults : ChannelParams where
  len := 1000
  limitBid := 6
  limitDecline := 6
  limitStatus := 4
  limitText := 4
  limitTrip := 8
  lifeDecline := 10
  lifeStatus := 30
  lifeText := 60
  lifeTrip := 600

/-- All eight status flags clear (R198). -/
def StatusFlags.clear : StatusFlags := ⟨false, false, false, false, false, false, false, false⟩

/-- A bank that holds no data (R127). -/
def Bank.blank : Bank where
  pages := List.replicate 32 none
  image := none
  count := none
  crc := none

/-- Totalizers at zero (09: as the part leaves the factory). -/
def Totalizers.zero : Totalizers := ⟨0, 0, 0, 0, 0, 0⟩

/-- The empty plausibility window (R98). -/
def PlausWindow.empty : PlausWindow := ⟨0, 0, none, none, 0⟩

/-- The channel controller after a start-up (R26): the start-up is at 0 of the local counter (log 1). -/
def Controller.cold : Controller where
  acq := .search
  cycle := 0
  expected := 1000000
  timer := 1125000
  inSeq := 0
  missed := 0
  nOpen := 0
  restricted := false
  schedule := []
  groups := []
  pageHold := 0
  offTime := 0
  len := 1000

/-- The uplink queue after a start-up (R47). -/
def Queue.cold : Queue := ⟨[], 0, none, none, 0, List.replicate 128 []⟩

/-- The zone resolver after a start-up (R60). -/
def Resolver.cold : Resolver where
  table := List.replicate 64 none
  lastFix := none
  age := 255
  cand := none
  zone := 0
  timer := 60
  stale := true
  area := 0

/-- The message store after a start-up (R175). -/
def MessageStore.cold : MessageStore := ⟨[], List.replicate 32 [], 0, .stopped⟩

/-- The port after a start-up (R203). -/
def CabPort.cold : CabPort := ⟨none, [], false⟩

/-- The part right after reset: a factory part (R204) with every item at its cold value (R26, R47, R60, R82, R105, R141,
R149, R164, R175, R189, R190, R203). The frames and notices of the start-up itself are the COLD_START_UP command's (log 2). -/
def Part.reset : Part where
  ctl := Controller.cold
  queue := Queue.cold
  zones := Resolver.cold
  offers := []
  meter :=
    { state := .offDuty, awarded := none, trip := none, count := 0, motion := .stopped, zeroRun := 3,
      window := PlausWindow.empty, held := none, k := 1000, calEvents := 0, calWrite := none }
  tariff :=
    { oneActive := false, bank0 := Bank.blank, bank1 := Bank.blank, activeVersion := 0, staging := .empty,
      loadVersion := none, pageCount := none, imageCrc := none, activation := none, missing := [], buffer := none,
      activity := .idle, lastTod := none }
  clock :=
    { state := .unset, tod := 0, day := 0, silence := 0, trim := 0, trimNv := 0, trimWrite := none, window := none,
      local_ := 0, secondEnd := 1000000 }
  log :=
    { records := [], tripCounter := 0, shiftCounter := 0, totals := Totalizers.zero, shift := none, summary := none,
      nv := ⟨[], 0, 0, Totalizers.zero⟩, inFlight := none, waiting := [] }
  msgs := MessageStore.cold
  emg := ⟨.idle, none, 0, false, none, false⟩
  sign :=
    { table := SignTable.factory, sign := ⟨⟨0, 0⟩, true, 0⟩, owner := .meter, alert := ⟨⟨0, 0⟩, false, 0⟩, write := none }
  mgmt :=
    { serial := 0, identity := ⟨0, 0, 0⟩, idWrite := none, flags := StatusFlags.clear, params := ChannelParams.defaults,
      supplyMark := false, checkAgrees := false }
  port := CabPort.cold
  lines := ⟨false, false, false⟩
  air := []
  sig := ⟨false, false, false, false⟩
  draws := 0

/-- The machine right after reset: the part at reset, and no command waiting. -/
def State.reset : State := ⟨Part.reset, []⟩

end Sys2Proof.Machine
end

