-- ==== Sys2Proof/Machine/Ops.lean ====
section
/-! DEFINITION. Shared operations: cycle arithmetic, saturation, the cab link port's discipline, the acquisition state
with its notice, the wake, the receive filter, and the free choices. -/

namespace Sys2Proof.Machine

/-! ### Numbers (00, Conventions) -/

/-- The cycle `n` cycles after cycle `a` (00, Cycle numbers). -/
def cycleAfter (n a : Nat) : Nat := (a + n) % 4096

/-- Cycle `b` is later than cycle `a` when (b - a) mod 4096 lies in 1 to 2047 (00, Cycle numbers). -/
def cycleLater (b a : Nat) : Bool :=
  decide (1 ≤ (b % 4096 + 4096 - a % 4096) % 4096) && decide ((b % 4096 + 4096 - a % 4096) % 4096 ≤ 2047)

/-- A deadline cycle has passed once the current cycle equals it or is later than it (00, Cycle numbers). -/
def cyclePassed (current deadline : Nat) : Bool := current == deadline || cycleLater current deadline

/-- An addition that stays at its upper limit (00, Saturation and wrapping). -/
def satAdd (limit a b : Nat) : Nat := min limit (a + b)

/-- The number after `n` in a numbering 1 to `limit` that starts again at 1 (R86, R150, R159, R173). -/
def nextNumber (limit n : Nat) : Nat := if limit ≤ n then 1 else n + 1

/-- A value held to a range (R197). -/
def clampTo (lo hi v : Nat) : Nat := max lo (min hi v)

/-- An integer held to a range (R146). -/
def clampInt (lo hi v : Int) : Int := max lo (min hi v)

/-- Division rounded half away from zero (00, Rounding), for a positive divisor. -/
def roundHalfAway (a : Int) (b : Nat) : Int :=
  if a < 0 then -(((2 * a.natAbs + b) / (2 * b) : Nat) : Int) else (((2 * a.natAbs + b) / (2 * b) : Nat) : Int)

/-- The distance between two grid coordinates (R99). -/
def absDiff (a b : Nat) : Nat := if a ≤ b then b - a else a - b

/-! ### Free choices (log 5, 6) -/

/-- One free value has been read: the next reading is another one. -/
def drawn (p : Part) : Part := p.setDraws (p.draws + 1)

/-- The counter drawn from 0 to W - 1 (R9). -/
def drawCounter (p : Part) (w : Nat) : Nat := Config.backoffDraw p.draws % w

/-! ### The outbound list (R193) -/

/-- A response of the outbound list. -/
def isResponse : Outbound → Bool
  | .response _ _ _ _ => true
  | .notice _ _ => false

/-- Place a response: last, or discarded when the list holds 4 (R193). -/
def placeResponse (req item : Nat) (code : RespCode) (body : RespBody) (p : Part) : Part :=
  if (p.port.outbound.filter isResponse).length < 4 then
    p.setPort { p.port with outbound := p.port.outbound ++ [.response req item code body] }
  else p

/-- Place a notice: last, carrying OVERFLOW when the mark is set, which clears it; or discarded, which sets the mark, when
the list holds 32 (R193). -/
def placeNotice (body : NoticeBody) (p : Part) : Part :=
  if (p.port.outbound.filter (fun o => !isResponse o)).length < 32 then
    p.setPort { p.port with outbound := p.port.outbound ++ [.notice body p.port.overflow], overflow := false }
  else p.setPort { p.port with overflow := true }

/-! ### Requests (R191, R192) -/

/-- The owner answers the outstanding request: its response is placed, unless a terminal restart made it one to discard
(R202), and it ceases to be outstanding (R192). -/
def answer (code : RespCode) (body : RespBody) (p : Part) : Part :=
  match p.port.outstanding with
  | none => p
  | some o =>
    let p := p.setPort { p.port with outstanding := none }
    if o.discard then p else placeResponse o.req o.item code body p

/-- A request is answered BAD by the port, with its own number, without becoming outstanding (R191). -/
def answerBad (req item : Nat) (p : Part) : Part := placeResponse req item .bad .none p

/-- A request that passes R191: BUSY while another is outstanding; otherwise it becomes outstanding and its owner takes
it (R192). -/
def takeRequest (req item : Nat) (owner : Part → Part) (p : Part) : Part :=
  match p.port.outstanding with
  | some _ => placeResponse req item .busy .none p
  | none => owner (p.setPort { p.port with outstanding := some ⟨req, item, false⟩ })

/-- A request whose parameter may be lacking or malformed (R191). -/
def takeRequestWith {α : Type} (req item : Nat) (param : Option α) (owner : α → Part → Part) (p : Part) : Part :=
  match param with
  | none => answerBad req item p
  | some a => takeRequest req item (owner a) p

/-! ### The acquisition state and the wake (R25, R194) -/

/-- Set the acquisition state; each change of it places a LINK notice (R194). -/
def setAcq (a : AcqState) (p : Part) : Part :=
  if p.ctl.acq = a then p
  else placeNotice (.link a p.ctl.cycle) (p.setCtl { p.ctl with acq := a })

/-- A wake event: a parked controller enters HOLDOVER with a missed count of 0, keeping its cycle and timing; in every
other state the event has no effect on the acquisition state (R25). -/
def wake (p : Part) : Part :=
  if p.ctl.acq = .parked then setAcq .holdover (p.setCtl { p.ctl with missed := 0 }) else p

/-! ### The receive filter (R19, R20) -/

/-- The fleet check: a fleet number has been set and the frame's equals it (R19). -/
def fleetPasses (fleet : Nat) (p : Part) : Bool :=
  p.mgmt.identity.fleet != 0 && fleet == p.mgmt.identity.fleet

/-- The address filter (R20). -/
def addressPasses (kind : AddrKind) (addr : Nat) (p : Part) : Bool :=
  match kind with
  | .all => true
  | .cab => addr == p.mgmt.identity.addr && p.mgmt.identity.addr != 0
  | .group => p.ctl.groups.contains addr

/-- The states in which every frame that passes the filter is routed (R20). -/
def routesFrames : AcqState → Bool
  | .search => false
  | .acquire => true
  | .locked => true
  | .holdover => true
  | .parked => false

/-- A frame other than a marker or a SET IDENTITY passes the receive path (R19, R20). -/
def framePasses (h : AirHeader) (p : Part) : Bool :=
  h.crcOk && fleetPasses h.fleet p && routesFrames p.ctl.acq && addressPasses h.kind h.addr p

/-- A frame that passes the receive path reaches its block; any other leaves no trace (R19, R20, R21). -/
def receiveFrame (h : AirHeader) (owner : Part → Part) (p : Part) : Part :=
  if framePasses h p then owner p else p

end Sys2Proof.Machine
end

