-- ==== Sys2Proof/Machine/Flags.lean ====
section
/-! DEFINITION. The status flags and their summary (R198, R199), and the link fault record (R43 to R45). -/

namespace Sys2Proof.Machine

/-- A flag's value. -/
def flagGet (f : StatusFlags) : Flag → Bool
  | .linkNoSlot => f.linkNoSlot
  | .linkNoAck => f.linkNoAck
  | .linkNoGrant => f.linkNoGrant
  | .inboundDropped => f.inboundDropped
  | .loadError => f.loadError
  | .sensor => f.sensor
  | .clock => f.clock
  | .tripLost => f.tripLost

/-- A flag given a value, the others as before. -/
def flagPut (f : StatusFlags) (v : Bool) : Flag → StatusFlags
  | .linkNoSlot => { f with linkNoSlot := v }
  | .linkNoAck => { f with linkNoAck := v }
  | .linkNoGrant => { f with linkNoGrant := v }
  | .inboundDropped => { f with inboundDropped := v }
  | .loadError => { f with loadError := v }
  | .sensor => { f with sensor := v }
  | .clock => { f with clock := v }
  | .tripLost => { f with tripLost := v }

/-- The status summary: set while any of the eight flags is set (R198). -/
def flagSummary (f : StatusFlags) : Bool :=
  f.linkNoSlot || f.linkNoAck || f.linkNoGrant || f.inboundDropped || f.loadError || f.sensor || f.clock || f.tripLost

/-- A block reports a condition: its flag is set and stays set (R198). -/
def setFlag (fl : Flag) (p : Part) : Part :=
  p.setMgmt { p.mgmt with flags := flagPut p.mgmt.flags true fl }

/-- Each named flag is cleared (R199). -/
def clearFlags (fls : List Flag) (p : Part) : Part :=
  p.setMgmt { p.mgmt with flags := fls.foldl (fun f fl => flagPut f false fl) p.mgmt.flags }

/-- The status flag of a HARD fault's cause (R43). -/
def causeFlag : Cause → Flag
  | .noSlot => .linkNoSlot
  | .noAck => .linkNoAck
  | .noGrant => .linkNoGrant

/-- What a link fault record holds after a fault is offered to it (R44). -/
def latchFault (record : Option LinkFault) (offered : LinkFault) : Option LinkFault :=
  match record with
  | none => some offered
  | some r =>
    if !offered.hard then some r
    else if r.hard then some { r with second := true }
    else some offered

end Sys2Proof.Machine
end

