-- ==== Sys2Proof/Machine/Layouts.lean ====
section
/-! DEFINITION. The byte layouts of R205 and the CRC-16 of R19, R124 and R205: the marker (read and written), the burst
slot header, the trip record body, and the cab link envelope; and the granules of the frame store (R30). Multi-byte fields are big-endian. -/

namespace Sys2Proof.Machine

/-! ### The CRC (R19: x^16 + x^12 + x^5 + 1, initial value all ones, no reflection, no final XOR) -/

/-- One step of the register: shift left, and fold in the polynomial when a 1 leaves. -/
def crcShift (c : Crc) : Crc := if c.msb then (c <<< 1) ^^^ 0x1021#16 else c <<< 1

/-- `n` steps of the register. -/
def crcShifts : Nat → Crc → Crc
  | 0, c => c
  | n + 1, c => crcShifts n (crcShift c)

/-- One byte enters the register, most significant bit first. -/
def crcByte (c : Crc) (b : Byte) : Crc := crcShifts 8 (c ^^^ ((b.zeroExtend 16) <<< 8))

/-- The CRC-16 of a run of bytes. -/
def crc16 (bytes : List Byte) : Crc := bytes.foldl crcByte 0xFFFF#16

/-! ### Big-endian numbers -/

/-- The number a run of bytes spells, most significant byte first. -/
def beNat (bytes : List Byte) : Nat := bytes.foldl (fun n b => n * 256 + b.toNat) 0

/-- The low `k` bytes of a number, most significant byte first. -/
def beBytes : Nat → Nat → List Byte
  | 0, _ => []
  | k + 1, n => BitVec.ofNat 8 (n / 256 ^ k) :: beBytes k n

/-- The CRC of a frame as its last two bytes. -/
def crcBytes (bytes : List Byte) : List Byte := beBytes 2 (crc16 bytes).toNat

/-- A frame with its CRC at its end (R205). -/
def sealFrame (bytes : List Byte) : List Byte := bytes ++ crcBytes bytes

/-- The bytes before a frame's CRC, when the frame passes its check (R19, R191). -/
def openFrame (frame : List Byte) : Option (List Byte) :=
  let n := frame.length - 2
  if 2 ≤ frame.length ∧ frame.drop n = crcBytes (frame.take n) then some (frame.take n) else none

/-! ### The marker -/

/-- Acknowledgement pairs: bits 15-4 cab address, bits 3-0 tag (R205). -/
def readPairs : Nat → List Byte → List (Nat × Nat)
  | 0, _ => []
  | n + 1, bs => (beNat (bs.take 2) / 16, beNat (bs.take 2) % 16) :: readPairs n (bs.drop 2)

/-- Grants: a pair, then bits 7-4 first slot, bits 2-0 slot count (R205). -/
def readGrants : Nat → List Byte → List Grant
  | 0, _ => []
  | n + 1, bs =>
    { addr := beNat (bs.take 2) / 16, tag := beNat (bs.take 2) % 16,
      first := beNat ((bs.drop 2).take 1) / 16, count := beNat ((bs.drop 2).take 1) % 8 } :: readGrants n (bs.drop 3)

/-- Pages: bits 11-0 cab address (R205). -/
def readPages : Nat → List Byte → List Nat
  | 0, _ => []
  | n + 1, bs => beNat (bs.take 2) % 4096 :: readPages n (bs.drop 2)

/-- Every grant names slots up to 15 and a count of 1 to 4 (R2). -/
def grantsWellFormed (gs : List Grant) : Bool :=
  gs.all (fun g => decide (1 ≤ g.count) && decide (g.count ≤ 4) && decide (g.first + g.count ≤ 16))

/-- The marker that the bytes of a frame spell, or none: the frame fails its check, is of another kind, or is not well
formed (R2, R19, R205). -/
def readMarker (frame : List Byte) : Option Marker :=
  match openFrame frame with
  | none => none
  | some b =>
    let at_ (i k : Nat) : Nat := beNat ((b.drop i).take k)
    let a := at_ 12 1
    let g := at_ 13 1
    let q := at_ 14 1
    let n := at_ 4 2
    let grants := readGrants g (b.drop (15 + 2 * a))
    if 15 ≤ b.length ∧ at_ 1 1 % 64 = 1 ∧ a ≤ 24 ∧ g ≤ 8 ∧ q ≤ 16 ∧ n = 9 + 2 * a + 3 * g + 2 * q ∧ b.length = 6 + n ∧
        grantsWellFormed grants then
      some
        { fleet := at_ 0 1, cycle := at_ 6 2 % 4096, tod := at_ 8 3 % 131072, day := at_ 8 3 / 4194304,
          restricted := decide (128 ≤ at_ 11 1), nOpen := at_ 11 1 % 16,
          acks := readPairs a (b.drop 15), grants := grants, pages := readPages q (b.drop (15 + 2 * a + 3 * g)) }
    else none

/-- The bytes of a marker frame, addressed ALL (R205). -/
def writeMarker (m : Marker) : List Byte :=
  sealFrame
    (beBytes 1 m.fleet ++ beBytes 1 1 ++ beBytes 2 0 ++
      beBytes 2 (9 + 2 * m.acks.length + 3 * m.grants.length + 2 * m.pages.length) ++ beBytes 2 m.cycle ++
      beBytes 3 (m.day * 4194304 + m.tod) ++ beBytes 1 ((if m.restricted then 128 else 0) + m.nOpen) ++
      beBytes 1 m.acks.length ++ beBytes 1 m.grants.length ++ beBytes 1 m.pages.length ++
      m.acks.flatMap (fun a => beBytes 2 (a.1 * 16 + a.2)) ++
      m.grants.flatMap (fun g => beBytes 2 (g.addr * 16 + g.tag) ++ beBytes 1 (g.first * 16 + g.count)) ++
      m.pages.flatMap (fun a => beBytes 2 a))

/-! ### The burst -/

/-- The code of an uplink frame kind (R205). -/
def kindCode : Kind → Nat
  | .beacon => 1
  | .cancel => 2
  | .bid => 3
  | .awardDecline => 4
  | .status => 5
  | .text => 6
  | .messageReply => 7
  | .readReceipt => 8
  | .reply => 9
  | .trip => 10
  | .shiftSummary => 11

/-- The code of an access class, which is its rank (R8, R29, R205). -/
def classRank : AccessClass → Nat
  | .emergency => 0
  | .urgent => 1
  | .routine => 2
  | .bulk => 3

/-- The bytes of a burst: slot header, body bytes, CRC (R12, R205). -/
def writeBurst (b : Burst) : List Byte :=
  sealFrame
    (beBytes 1 b.fleet ++ beBytes 2 (b.addr * 16 + b.tag) ++
      beBytes 1
        ((match b.part with | .data _ _ => 0 | .reservation _ => 128) + (if b.longWait then 64 else 0) +
          classRank b.cls * 16 + kindCode b.kind) ++
      beBytes 1 (match b.part with | .data part count => part * 64 + (count - 1) * 16 | .reservation slots => (slots - 1) * 16) ++
      beBytes 1 b.bytes.length ++ b.bytes)

/-! ### The trip record body -/

/-- A Boolean as a bit of the given weight. -/
def bitAt (b : Bool) (weight : Nat) : Nat := if b then weight else 0

/-- Bits 0 to 8 of the trip flags field (R205). -/
def tripFlagBits (f : TripFlags) : Nat :=
  bitAt f.saturated 1 + bitAt f.fixed 2 + bitAt f.capped 4 + bitAt f.powerInterrupted 8 + bitAt f.clockFree 16 +
    bitAt f.clockUnset 32 + bitAt f.pulseClamped 64 + bitAt f.distanceSuspect 128 + bitAt f.usageTruncated 256

/-- The code of a delivery state (R205). -/
def deliveryCode : Delivery → Nat
  | .undelivered => 0
  | .queued => 1
  | .delivered => 2

/-- The code of a price mode (R205). -/
def priceCode : Price → Nat
  | .unpriced => 0
  | .fixed _ => 1
  | .cap _ => 2

/-- The price value; 0 for NONE (R205). -/
def priceValue : Price → Nat
  | .unpriced => 0
  | .fixed v => v
  | .cap v => v

/-- The bytes of a trip record body: 48 + 4e + 6u of them (R205). -/
def writeTrip (r : TripRecord) : List Byte :=
  beBytes 4 r.number ++ beBytes 2 r.shift ++ beBytes 2 r.imageVersion ++ beBytes 3 r.startTod ++ beBytes 1 r.startDay ++
    beBytes 3 r.endTod ++ beBytes 1 r.startZone ++ beBytes 1 r.endZone ++ beBytes 4 r.distance ++ beBytes 3 r.waiting ++
    beBytes 3 r.hiredSeconds ++ beBytes 3 r.metered ++ beBytes 3 r.extrasTotal ++ beBytes 3 r.charged ++
    beBytes 2 (tripFlagBits r.flags + deliveryCode r.delivery * 4096) ++
    beBytes 1 (bitAt r.jobId.isSome 128 + priceCode r.price) ++ beBytes 3 (priceValue r.price) ++
    beBytes 4 ((r.jobId.map BitVec.toNat).getD 0) ++ beBytes 1 r.extras.length ++ beBytes 1 r.usage.length ++
    r.extras.flatMap (fun e => beBytes 1 (e.number * 16 + e.count) ++ beBytes 3 e.subtotal) ++
    r.usage.flatMap (fun u => beBytes 1 (u.tariff * 16 + u.area) ++ beBytes 2 u.drops ++ beBytes 3 u.start)

/-! ### The cab link envelope -/

/-- The number of a response code (R194). -/
def respCodeNumber : RespCode → Nat
  | .ok => 0
  | .refusedState => 1
  | .busy => 2
  | .busyBid => 3
  | .gone => 4
  | .notFound => 5
  | .limit => 6
  | .queueFull => 7
  | .moving => 8
  | .locked => 9
  | .noTariff => 10
  | .bad => 11

/-- The notice code (R205). -/
def noticeCode : NoticeBody → Nat
  | .offer _ => 1
  | .offerState _ => 2
  | .meter _ _ _ => 3
  | .message _ => 4
  | .textResult _ _ _ => 5
  | .link _ _ => 6

/-- The bytes of an envelope around a body of bytes (R205); the layout of the body itself is not in the spec. -/
def writeEnvelope (o : Outbound) (body : List Byte) : List Byte :=
  sealFrame
    ((match o with
      | .response req item code _ => beBytes 1 2 ++ beBytes 1 req ++ beBytes 1 item ++ beBytes 1 (respCodeNumber code)
      | .notice n overflow => beBytes 1 3 ++ beBytes 1 0 ++ beBytes 1 (noticeCode n) ++ beBytes 1 (bitAt overflow 1)) ++
      beBytes 2 body.length ++ body)

/-- The request number, the item code and the body of an envelope from the terminal that passes the port's check: its CRC
matches, its frame type is REQUEST, its body length is at most 400 and is the length it states (R191, R205; log 19). -/
def readEnvelope (bytes : List Byte) : Option (Nat × Nat × List Byte) :=
  match openFrame bytes with
  | none => none
  | some b =>
    if beNat (b.take 1) = 1 ∧ beNat ((b.drop 4).take 2) ≤ 400 ∧ b.length = 6 + beNat ((b.drop 4).take 2) then
      some (beNat ((b.drop 1).take 1), beNat ((b.drop 2).take 1), b.drop 6)
    else none

/-- The bytes of a REQUEST envelope (R205). -/
def writeRequest (req item : Nat) (body : List Byte) : List Byte :=
  sealFrame (beBytes 1 1 ++ beBytes 1 req ++ beBytes 1 item ++ beBytes 1 0 ++ beBytes 2 body.length ++ body)

/-! ### The granules of the frame store (R30) -/

/-- Bytes written into granules of 16: byte b goes into the granule at list position floor(b/16). -/
def writeGranules : List Nat → List Byte → List (List Byte) → List (List Byte)
  | [], _, store => store
  | g :: gs, bytes, store => writeGranules gs (bytes.drop 16) (store.set g (bytes.take 16))

/-- The bytes that stand in the granules of a list, in list order. -/
def readGranules (gs : List Nat) (store : List (List Byte)) : List Byte := gs.flatMap (fun g => store.getD g [])

end Sys2Proof.Machine
end

