-- ==== Sys2Proof/Machine/Operands.lean ====
section
/-! DEFINITION. What an uplink body is by its kind: class, size, granules, slots, limits, lifetimes (02, kinds table; R8,
R9, R12, R27, R30, R35). -/

namespace Sys2Proof.Machine

/-- The kind of a body (02, kinds table). -/
def kindOf : Body → Kind
  | .beacon _ => .beacon
  | .cancel _ => .cancel
  | .bid _ _ _ _ => .bid
  | .awardDecline _ _ _ => .awardDecline
  | .status _ => .status
  | .text _ _ _ => .text
  | .messageReply _ _ _ => .messageReply
  | .readReceipt _ _ => .readReceipt
  | .reply _ => .reply
  | .trip _ => .trip
  | .shiftSummary _ => .shiftSummary

/-- The class of a kind (R27). -/
def classOf : Kind → AccessClass
  | .beacon => .emergency
  | .cancel => .emergency
  | .bid => .urgent
  | .awardDecline => .urgent
  | .status => .routine
  | .text => .routine
  | .messageReply => .routine
  | .readReceipt => .routine
  | .reply => .routine
  | .trip => .bulk
  | .shiftSummary => .bulk

/-- The largest body of a kind, in bytes (02, kinds table; a READ RECEIPT and a STATUS occupy one granule, R31, R169). -/
def maxSize : Kind → Nat
  | .beacon => 32
  | .cancel => 32
  | .bid => 32
  | .awardDecline => 32
  | .status => 16
  | .text => 128
  | .messageReply => 128
  | .readReceipt => 16
  | .reply => 128
  | .trip => 116
  | .shiftSummary => 128

/-- The trip record whose layout a body has: that of a TRIP, whose delivery state reads QUEUED, and that of a REPLY to QUERY
TRIP, where it reads as the record holds it (R205). -/
def recordOf : Body → Option TripRecord
  | .trip r => some r
  | .reply (.trip r) => r
  | _ => none

/-- A body's byte count: by the trip record layout (R205), or a free value from 1 to its kind's largest (log 7). -/
def bodySize (b : Body) : Nat :=
  match recordOf b with
  | some r => (writeTrip r).length
  | none => 1 + Config.bodyLength b % maxSize (kindOf b)

/-- A body's bytes: by the trip record layout (R205), or free values (log 7). -/
def bodyBytes (b : Body) : List Byte :=
  match recordOf b with
  | some r => writeTrip r
  | none => (List.range (bodySize b)).map (Config.bodyByte b)

/-- How many granules a body occupies: ceil(n/16), which is one for a STATUS and for a READ RECEIPT (R30, R31, R169). -/
def granuleCount : Body → Nat
  | .status _ => 1
  | .readReceipt _ _ => 1
  | b => (bodySize b + 15) / 16

/-- How many bursts carry a body of n bytes, and so how many slots a reservation asks for: ceil(n/32) (R12, R13). -/
def slotCount (size : Nat) : Nat := (size + 31) / 32

/-- A body of up to 32 bytes goes in one open slot; a longer one needs a reservation (R10, R13). -/
def fitsOneBurst (size : Nat) : Bool := decide (size ≤ 32)

/-- The attempt limit of a kind; absent for the EMERGENCY kinds (R35). -/
def attemptLimit (c : ChannelParams) : Kind → Option Nat
  | .beacon => none
  | .cancel => none
  | .bid => some c.limitBid
  | .awardDecline => some c.limitDecline
  | .status => some c.limitStatus
  | .text => some c.limitText
  | .messageReply => some c.limitText
  | .readReceipt => some c.limitText
  | .reply => some c.limitStatus
  | .trip => some c.limitTrip
  | .shiftSummary => some c.limitTrip

/-- The lifetime of a kind in cycles; absent for the EMERGENCY kinds, and for a BID, whose expiry is the offer's deadline
(R27, R35). -/
def lifetime (c : ChannelParams) : Kind → Option Nat
  | .beacon => none
  | .cancel => none
  | .bid => none
  | .awardDecline => some c.lifeDecline
  | .status => some c.lifeStatus
  | .text => some c.lifeText
  | .messageReply => some c.lifeText
  | .readReceipt => some c.lifeText
  | .reply => some c.lifeStatus
  | .trip => some c.lifeTrip
  | .shiftSummary => some c.lifeTrip

/-- Where the doubling of the backoff window stops (R9). -/
def windowCap : AccessClass → Nat
  | .emergency => 4
  | .urgent => 32
  | .routine => 32
  | .bulk => 32

/-- ROUTINE and BULK, which are held back in ALERT and when restricted (R8, R11). -/
def isLowClass : AccessClass → Bool
  | .emergency => false
  | .urgent => false
  | .routine => true
  | .bulk => true

/-- The class of an entry. -/
def entryClass (e : Entry) : AccessClass := classOf (kindOf e.body)

/-- The class rank of an entry (R29). -/
def entryRank (e : Entry) : Nat := classRank (entryClass e)

/-- The open slots an access class may use in a cycle (R8). -/
def slotEligible (cls : AccessClass) (nOpen : Nat) (restricted alert : Bool) (slot : Nat) : Bool :=
  decide (slot < nOpen) && (!isLowClass cls || (decide (slot ≠ 0) && !restricted && !alert))

end Sys2Proof.Machine
end

