-- ==== Sys2Proof/Machine/Uplink.lean ====
section
/-! DEFINITION. The uplink queue and frame store (02): admission, eviction, coalescing, attempts, settlement, lifetimes,
removal; and what the sources do with the queue's reports (R41). The queue's own changes are made first and give a list
of reports, which are then handed to the sources in order (R42). -/

namespace Sys2Proof.Machine

/-! ### Entries and granules -/

/-- The entry of a tag. -/
def findTag (t : Nat) (es : List Entry) : Option Entry := es.find? (fun e => e.tag == t)

/-- The entries with the one of a tag changed. -/
def mapTag (t : Nat) (f : Entry → Entry) (es : List Entry) : List Entry := es.map (fun e => if e.tag = t then f e else e)

/-- The entries without the one of a tag: its granules and tag are free again (R28, R30). -/
def dropTag (t : Nat) (es : List Entry) : List Entry := es.filter (fun e => e.tag != t)

/-- The free granules, lowest number first: those of 0 to 127 that no entry lists (R30). -/
def freeGranules (es : List Entry) : List Nat :=
  (List.range 128).filter (fun g => es.all (fun e => !e.granules.contains g))

/-- A free entry place out of 12 and the granules a body needs (R33). -/
def fits (need : Nat) (es : List Entry) : Bool := decide (es.length < 12) && decide (need ≤ (freeGranules es).length)

/-- The first tag, counting upward from the pointer and wrapping, that no entry holds (R28). -/
def pickTag (ptr : Nat) (es : List Entry) : Nat :=
  (((List.range 16).map (fun i => (ptr + i) % 16)).find? (fun t => es.all (fun e => e.tag != t))).getD ptr

/-- A new entry stands after every entry of its own class, before every entry of a lower one (R29). -/
def insertEntry (e : Entry) : List Entry → List Entry
  | [] => [e]
  | x :: xs => if entryRank x ≤ entryRank e then x :: insertEntry e xs else e :: x :: xs

/-- The queue with other entries. -/
def withEntries (es : List Entry) (p : Part) : Part := p.setQueue { p.queue with entries := es }

/-- The expiry cycle of a new entry of a kind with a lifetime: the current cycle plus the lifetime (R27). -/
def expiryOf (b : Body) (p : Part) : Option Nat :=
  (lifetime p.mgmt.params (kindOf b)).map (fun n => cycleAfter n p.ctl.cycle)

/-- The fields of an entry at its admission, with its counter drawn (R9, R27, R28, R30). -/
def freshEntry (b : Body) (source : Option Nat) (expiry : Option Nat) (tag uid : Nat) (others : List Entry) (p : Part) : Entry where
  body := b
  source := source
  size := bodySize b
  granules := (freeGranules others).take (granuleCount b)
  tag := tag
  st := .waiting
  attempts := 0
  lastCause := none
  window := 2
  counter := drawCounter p 2
  ackWindow := 0
  grantWait := 0
  queuedAt := p.ctl.cycle
  expiry := expiry
  mark := none
  uid := uid

/-- A body written into an entry's granules (R30). -/
def storeBody (e : Entry) (q : Queue) : List (List Byte) := writeGranules e.granules (bodyBytes e.body) q.store

/-- The bytes of an entry's body, as its granules hold them (R30). -/
def entryBytes (e : Entry) (p : Part) : List Byte := readGranules e.granules p.queue.store

/-- A body taken as a new entry (R27): tag from the pointer, which moves on (R28); granules; place; drawn counter. -/
def addEntry (b : Body) (source expiry : Option Nat) (p : Part) : Part :=
  let q := p.queue
  let tag := pickTag q.tagPtr q.entries
  let e := freshEntry b source expiry tag q.nextUid q.entries p
  drawn (p.setQueue
    { q with
      entries := insertEntry e q.entries, tagPtr := (tag + 1) % 16, nextUid := q.nextUid + 1, store := storeBody e q })

/-! ### Eviction (R33, R34) -/

/-- The entries that an admission of a class may evict: WAITING and strictly lower in rank (R33). -/
def evictable (cls : AccessClass) (e : Entry) : Bool :=
  decide (e.st = .waiting) && decide (classRank cls < entryRank e)

/-- The order of eviction: lowest class first, youngest first within a class, which is the reverse of queue order (R34). -/
def evictionOrder (cls : AccessClass) (es : List Entry) : List Entry := (es.filter (evictable cls)).reverse

/-- Evict candidates in order, stopping as soon as place and granules are free: the entries left, and those evicted. -/
def evictUntil (need : Nat) : List Entry → List Entry → List Entry × List Entry
  | [], es => (es, [])
  | c :: cs, es =>
    if fits need es then (es, [])
    else
      let r := evictUntil need cs (dropTag c.tag es)
      (r.1, c :: r.2)

/-- An admission request at the queue (R33): the part after it, the entries evicted, and whether it was queued. A request
that eviction cannot satisfy changes nothing. An EMERGENCY or URGENT entry placed in the queue wakes a parked controller
(R25). -/
def admitQueue (b : Body) (source expiry : Option Nat) (p : Part) : Part × List Entry × Bool :=
  let cls := classOf (kindOf b)
  let r := evictUntil (granuleCount b) (evictionOrder cls p.queue.entries) p.queue.entries
  if fits (granuleCount b) r.1 then
    let p := addEntry b source expiry (withEntries r.1 p)
    (if isLowClass cls then p else wake p, r.2, true)
  else (p, [], false)

/-! ### Reports to the sources (R41, R42) -/

/-- How an entry ended (R41). -/
inductive EntryOutcome | acknowledged | failed | evicted
deriving DecidableEq, Repr, Inhabited

/-- A report of the queue to a source: kind, source reference, outcome (R41). -/
structure Report where
  kind : Kind
  source : Option Nat
  outcome : EntryOutcome
deriving DecidableEq, Repr, Inhabited

/-- The report of an entry's end. -/
def reportOf (o : EntryOutcome) (e : Entry) : Report := ⟨kindOf e.body, e.source, o⟩

/-! #### The offer table's part (R66, R69) -/

/-- The displayed reason: the close reason, but SUPPRESSED is displayed as EXPIRED (R66). -/
def displayedReason : CloseReason → CloseReason
  | .suppressed => .expired
  | r => r

/-- An OFFER_STATE notice of an entry with no further item (R66). -/
def offerStateOf (o : Offer) : OfferStateBody where
  id := o.id
  state := o.state
  reason := o.closeReason.map displayedReason
  newDeadline := none
  withdrawReason := o.withdrawReason
  bidNotSent := false
  award := none

/-- The entry of an offer id. -/
def findOffer (id : Nat) (os : List Offer) : Option Offer := os.find? (fun o => o.id == id)

/-- The table with one entry's fields replaced, in its place. -/
def replaceOffer (o : Offer) (os : List Offer) : List Offer := os.map (fun x => if x.id = o.id then o else x)

/-- An entry CLOSED with a reason; a job id stands only in AWARDED or after a refused award (R61). -/
def closedOffer (reason : CloseReason) (wr : Option WithdrawReason) (o : Offer) : Offer :=
  { o with state := .closed, closeReason := some reason, withdrawReason := wr, jobId := none }

/-- Close an entry, with its OFFER_STATE notice (R66). -/
def closeOffer (id : Nat) (reason : CloseReason) (wr : Option WithdrawReason) (p : Part) : Part :=
  match findOffer id p.offers with
  | none => p
  | some o =>
    placeNotice (.offerState (offerStateOf (closedOffer reason wr o)))
      (p.setOffers (replaceOffer (closedOffer reason wr o) p.offers))

/-- Change an entry's state, with its OFFER_STATE notice (R66). -/
def moveOffer (id : Nat) (st : OfferState) (bidNotSent : Bool) (p : Part) : Part :=
  match findOffer id p.offers with
  | none => p
  | some o =>
    placeNotice (.offerState { offerStateOf { o with state := st } with bidNotSent := bidNotSent })
      (p.setOffers (replaceOffer { o with state := st } p.offers))

/-- The queue's report of a BID, acted on by the state of the entry it names (R69). An evicted one returns to PRESENTED in
every emergency state, as R69 says, where R64 says that none enters PRESENTED outside IDLE (log 39). -/
def bidReport (id : Nat) (o : EntryOutcome) (p : Part) : Part :=
  match findOffer id p.offers with
  | none => p
  | some e =>
    if e.state = .accepted then
      match o with
      | .acknowledged => moveOffer id .bidSent false p
      | .failed => closeOffer id (if cyclePassed p.ctl.cycle e.deadline then .expired else .notSent) none p
      | .evicted => moveOffer id .presented true p
    else p

/-! #### The trip log's part (R153, R155, R162) -/

/-- A change reaches the log: it begins an update when none is in flight, and otherwise joins the waiting ones (R153). -/
def addLogChange (c : LogChange) (p : Part) : Part :=
  match p.log.inFlight with
  | none => p.setLog { p.log with inFlight := some [c] }
  | some _ => p.setLog { p.log with waiting := p.log.waiting ++ [c] }

/-- The record of a trip number. -/
def findRecord (n : Nat) (rs : List TripRecord) : Option TripRecord := rs.find? (fun r => r.number == n)

/-- The records with one record's delivery state set. -/
def markRecord (n : Nat) (d : Delivery) (rs : List TripRecord) : List TripRecord :=
  rs.map (fun r => if r.number = n then { r with delivery := d } else r)

/-- A record of the log is QUEUED. -/
def recordQueued (n : Nat) (rs : List TripRecord) : Bool :=
  match findRecord n rs with
  | none => false
  | some r => decide (r.delivery = .queued)

/-- A record's delivery state set in the log. -/
def setDelivery (n : Nat) (d : Delivery) (p : Part) : Part := p.setLog { p.log with records := markRecord n d p.log.records }

/-- The summary, when it is QUEUED, becomes PENDING again (R162). -/
def summaryBack (p : Part) : Part :=
  match p.log.summary with
  | some (s, .queued) => p.setLog { p.log with summary := some (s, .pending) }
  | _ => p

/-- The summary, when it is QUEUED, has been delivered and becomes absent (R162). -/
def summaryDelivered (p : Part) : Part :=
  match p.log.summary with
  | some (_, .queued) => p.setLog { p.log with summary := none }
  | _ => p

/-! #### The emergency unit's part (R180) -/

/-- The cycles between an acknowledged frame and the next one; in ARMING those of the return state; absent where an
acknowledgement is disregarded (R179, R180). -/
def frameInterval (s : EmergencyState) (ret : Option ReturnState) : Option Nat :=
  match s with
  | .alert => some 4
  | .tracking => some 15
  | .cancelPending => some 4
  | .arming =>
    match ret with
    | some .tracking => some 15
    | some .cancelPending => some 4
    | _ => none
  | .idle => none

/-- An acknowledged BEACON or CANCEL sets the next frame cycle (R180). -/
def emergencyAcked (p : Part) : Part :=
  match frameInterval p.emg.state p.emg.ret with
  | none => p
  | some n => p.setEmg { p.emg with nextFrame := some (cycleAfter n p.ctl.cycle) }

/-! #### Evictions -/

/-- What a source does when its entry is evicted; none of it queues anything (R41, R155, R162, R171, R174). -/
def actOnEviction (e : Entry) (p : Part) : Part :=
  let n := e.source.getD 0
  match kindOf e.body with
  | .bid => bidReport n .evicted p
  | .text => placeNotice (.textResult .text n .queueFull) p
  | .messageReply => placeNotice (.textResult .reply n .queueFull) p
  | .trip => if recordQueued n p.log.records then setDelivery n .undelivered p else p
  | .shiftSummary => summaryBack p
  | .beacon => p
  | .cancel => p
  | .awardDecline => p
  | .status => p
  | .readReceipt => p
  | .reply => p

/-- An admission request of a source: evicted entries are reported to their sources before it is answered; the answer is
whether the frame was queued or refused with QUEUE_FULL (R33, R42). -/
def admitEntry (b : Body) (source expiry : Option Nat) (p : Part) : Part × Bool :=
  let r := admitQueue b source expiry p
  (r.2.1.foldl (fun p e => actOnEviction e p) r.1, r.2.2)

/-- An admission request whose answer the source does not use. -/
def offerEntry (b : Body) (source : Option Nat) (p : Part) : Part := (admitEntry b source (expiryOf b p) p).1

/-! #### Delivery of trip records and of the summary (R154, R162) -/

/-- How many records of the log are QUEUED. -/
def queuedCount (rs : List TripRecord) : Nat := (rs.filter (fun r => decide (r.delivery = .queued))).length

/-- The TRIP body of a record: its delivery state reads QUEUED (R205). -/
def tripBody (r : TripRecord) : Body := .trip { r with delivery := .queued }

/-- A delivery offer: while fewer than 2 records are QUEUED, the oldest UNDELIVERED record is offered, until the queue
refuses one or none is left. At most 2 admissions can follow, which bounds the repetition (R154). -/
def deliveryLoop : Nat → Part → Part
  | 0, p => p
  | fuel + 1, p =>
    if queuedCount p.log.records < 2 then
      match p.log.records.find? (fun r => decide (r.delivery = .undelivered)) with
      | none => p
      | some r =>
        let a := admitEntry (tripBody r) (some r.number) (expiryOf (tripBody r) p) p
        if a.2 then deliveryLoop fuel (setDelivery r.number .queued a.1) else a.1
    else p

/-- A delivery offer (R154). -/
def deliveryOffer (p : Part) : Part := deliveryLoop 2 p

/-- A PENDING summary is offered to the queue (R161, R162). -/
def summaryOffer (p : Part) : Part :=
  match p.log.summary with
  | some (s, .pending) =>
    let a := admitEntry (.shiftSummary s) none (expiryOf (.shiftSummary s) p) p
    if a.2 then a.1.setLog { a.1.log with summary := some (s, .queued) } else a.1
  | _ => p

/-- The trip log and totals take a cycle start: the records are offered first, then the summary (R154, R162; log 11). -/
def logCycleStart (p : Part) : Part := summaryOffer (deliveryOffer p)

/-- The queue's report of a TRIP entry (R155). -/
def tripReport (n : Nat) (o : EntryOutcome) (p : Part) : Part :=
  if recordQueued n p.log.records then
    match o with
    | .acknowledged => deliveryOffer (addLogChange (.delivered n) (setDelivery n .delivered p))
    | .failed => deliveryOffer (setDelivery n .undelivered p)
    | .evicted => setDelivery n .undelivered p
  else p

/-- What a source does with a report of its entry's end (R41). -/
def actOnReport (r : Report) (p : Part) : Part :=
  let n := r.source.getD 0
  match r.kind with
  | .beacon => if r.outcome = .acknowledged then emergencyAcked p else p
  | .cancel => if r.outcome = .acknowledged then emergencyAcked p else p
  | .bid => bidReport n r.outcome p
  | .awardDecline => p
  | .status => p
  | .text =>
    placeNotice (.textResult .text n
      (match r.outcome with | .acknowledged => .delivered | .failed => .failed | .evicted => .queueFull)) p
  | .messageReply =>
    match r.outcome with
    | .acknowledged => p
    | .failed => placeNotice (.textResult .reply n .failed) p
    | .evicted => placeNotice (.textResult .reply n .queueFull) p
  | .readReceipt => p
  | .reply => p
  | .trip => tripReport n r.outcome p
  | .shiftSummary =>
    match r.outcome with
    | .acknowledged => summaryDelivered p
    | .failed => summaryBack p
    | .evicted => summaryBack p

/-- Reports are handed to the sources in order, after the queue's own changes (R42); an entry that a source queues on one
report is admitted before the next report is made, an order that R42 leaves open (log 38). -/
def deliverReports (rs : List Report) (p : Part) : Part := rs.foldl (fun p r => actOnReport r p) p

/-! ### Coalescing (R31, R32) -/

/-- A WAITING STATUS entry with a newer body and a renewed expiry cycle (R31). -/
def renewedStatus (b : StatusBody) (p : Part) (e : Entry) : Entry :=
  { e with body := .status b, size := bodySize (.status b), expiry := expiryOf (.status b) p }

/-- A STATUS of the meter: it replaces the body of the WAITING STATUS entry in place, rewritten into that entry's granule,
and renews its expiry cycle, or is a new admission (R30, R31, R33). -/
def offerStatus (b : StatusBody) (p : Part) : Part :=
  match p.queue.entries.find? (fun e => decide (kindOf e.body = .status) && decide (e.st = .waiting)) with
  | some e =>
    p.setQueue
      { p.queue with
        entries := mapTag e.tag (renewedStatus b p) p.queue.entries, store := storeBody (renewedStatus b p e) p.queue }
  | none => offerEntry (.status b) none p

/-- A new BEACON or CANCEL replaces an entry in place: it takes the old one's place, tag and identity, and granules of its
own once the old one's are free; its count, cause, cycle queued, window and counter are new (R9, R32). -/
def replaceEntry (t : Nat) (b : Body) (p : Part) : Part :=
  let fresh (e : Entry) : Entry := freshEntry b none none e.tag e.uid (dropTag t p.queue.entries) p
  drawn (p.setQueue
    { p.queue with
      entries := mapTag t fresh p.queue.entries,
      store := writeGranules ((freeGranules (dropTag t p.queue.entries)).take (granuleCount b)) (bodyBytes b) p.queue.store })

/-- An entry of class EMERGENCY. -/
def isEmergency (e : Entry) : Bool := decide (entryClass e = .emergency)

/-- A new BEACON or CANCEL, handled by the EMERGENCY-class entries already held (R32). -/
def offerEmergency (b : Body) (p : Part) : Part :=
  match p.queue.entries.find? (fun e => isEmergency e && decide (e.st ≠ .sent)) with
  | some e => wake (replaceEntry e.tag b p)
  | none =>
    if p.queue.entries.any isEmergency then p.setQueue { p.queue with hold := some b }
    else offerEntry b none p

/-! ### Link faults (R43, R44) -/

/-- The link fault that an entry's end offers to the record (R43). -/
def faultOf (hard : Bool) (cause : Cause) (e : Entry) (cycle : Nat) : LinkFault where
  hard := hard
  kind := kindOf e.body
  cls := entryClass e
  tag := e.tag
  source := e.source
  cause := cause
  attempts := e.attempts
  cycle := cycle
  second := false

/-- A fault is offered to the record (R44). -/
def offerFault (f : LinkFault) (p : Part) : Part := p.setQueue { p.queue with fault := latchFault p.queue.fault f }

/-- A HARD fault: the record is offered it and the flag of its cause is set, whatever the record holds (R43, R44). -/
def hardFault (cause : Cause) (e : Entry) (p : Part) : Part :=
  setFlag (causeFlag cause) (offerFault (faultOf true cause e p.ctl.cycle) p)

/-! ### Settlement of attempts (R37, R38) -/

/-- An entry leaves the queue (R28, R30). -/
def removeTag (t : Nat) (p : Part) : Part := withEntries (dropTag t p.queue.entries) p

/-- A frame in the emergency hold is admitted as a new entry after the SENT one was acknowledged (R32, R37); entries it
evicts are reported. -/
def admitHeld (b : Body) (p : Part) : Part × List Report :=
  let r := admitQueue b none none (p.setQueue { p.queue with hold := none })
  (r.1, r.2.1.map (reportOf .evicted))

/-- An ACKNOWLEDGED report (R37): the entry leaves; at attempt 3 or later it is a SOFT fault with its last cause; it is
reported unless WITHDRAWN; a frame in the emergency hold is admitted next. -/
def settleAck (t : Nat) (p : Part) : Part × List Report :=
  match findTag t p.queue.entries with
  | none => (p, [])
  | some e =>
    let p := removeTag t p
    let p := if 3 ≤ e.attempts then offerFault (faultOf false (e.lastCause.getD .noAck) e p.ctl.cycle) p else p
    let rs := if e.mark = some .withdrawn then [] else [reportOf .acknowledged e]
    match p.queue.hold with
    | some b => if isEmergency e then ((admitHeld b p).1, rs ++ (admitHeld b p).2) else (p, rs)
    | none => (p, rs)

/-- The entry leaves with a failure of a cause, a HARD fault (R38, R39). -/
def failHard (cause : Cause) (e : Entry) (p : Part) : Part × List Report :=
  (hardFault cause e (removeTag e.tag p), [reportOf .failed e])

/-- The entry returns to WAITING: its window doubles up to its class's stop and its counter is drawn anew (R9, R38). -/
def returnToWaiting (cause : Cause) (e : Entry) (p : Part) : Part :=
  let w := min (windowCap (entryClass e)) (2 * e.window)
  drawn (withEntries
    (mapTag e.tag
      (fun x => { x with st := .waiting, lastCause := some cause, window := w, counter := drawCounter p w, ackWindow := 0, grantWait := 0 })
      p.queue.entries) p)

/-- The kind has an attempt limit and the attempt count has reached it (R38). -/
def limitReached (e : Entry) (p : Part) : Bool :=
  match attemptLimit p.mgmt.params (kindOf e.body) with
  | none => false
  | some n => decide (n ≤ e.attempts)

/-- Another STATUS entry is WAITING (R31, R38). -/
def supersededStatus (e : Entry) (es : List Entry) : Bool :=
  decide (kindOf e.body = .status) &&
    es.any (fun x => decide (x.tag ≠ e.tag) && decide (kindOf x.body = .status) && decide (x.st = .waiting))

/-- A FAILED report, settled by the first condition of R38's table that applies. -/
def settleFail (t : Nat) (cause : Cause) (p : Part) : Part × List Report :=
  match findTag t p.queue.entries with
  | none => (p, [])
  | some e =>
    if e.mark = some .withdrawn then (removeTag t p, [])
    else if supersededStatus e p.queue.entries then (removeTag t p, [])
    else if isEmergency e && p.queue.hold.isSome then
      match p.queue.hold with
      | some b => (replaceEntry t b (p.setQueue { p.queue with hold := none }), [])
      | none => (p, [])
    else if e.mark = some .expired then failHard cause e p
    else if limitReached e p then failHard cause e p
    else (returnToWaiting cause e p, [])

/-- Several settlements of one event, in order, with their reports in order (R42). -/
def settleAll (fs : List (Part → Part × List Report)) (p : Part) : Part × List Report :=
  fs.foldl (fun acc f => ((f acc.1).1, acc.2 ++ (f acc.1).2)) (p, [])

/-! ### Lifetimes (R39) -/

/-- One entry whose expiry cycle has passed, by its state (R39). -/
def expireEntry (t : Nat) (p : Part) : Part × List Report :=
  match findTag t p.queue.entries with
  | none => (p, [])
  | some e =>
    match e.st with
    | .waiting => failHard (if e.attempts = 0 then .noSlot else e.lastCause.getD .noSlot) e p
    | .reserving => failHard .noGrant e p
    | .granted => failHard .noGrant e p
    | .sent =>
      if e.mark = some .withdrawn then (p, [])
      else (withEntries (mapTag t (fun x => { x with mark := some .expired }) p.queue.entries) p, [])

/-- An entry's expiry cycle has passed at a cycle (R39). -/
def entryExpired (cycle : Nat) (e : Entry) : Bool :=
  match e.expiry with
  | none => false
  | some d => cyclePassed cycle d

/-- The queue takes a cycle start: every entry whose expiry cycle has passed, in queue order (R39). -/
def queueCycleStart (p : Part) : Part :=
  let due := (p.queue.entries.filter (entryExpired p.ctl.cycle)).map (fun e => e.tag)
  let r := settleAll (due.map expireEntry) p
  deliverReports r.2 r.1

/-! ### Removal at a source's request (R40) -/

/-- An entry of a kind and source reference. -/
def entryNamed (k : Kind) (source : Option Nat) (e : Entry) : Bool := decide (kindOf e.body = k) && decide (e.source = source)

/-- A source asks for its entry's removal: a SENT one is marked WITHDRAWN, any other leaves at once; nothing is reported
(R40). -/
def removeEntry (k : Kind) (source : Option Nat) (p : Part) : Part :=
  withEntries
    ((p.queue.entries.filter (fun e => !(entryNamed k source e && decide (e.st ≠ .sent)))).map
      (fun e => if entryNamed k source e then { e with mark := some .withdrawn } else e)) p

end Sys2Proof.Machine
end

