-- ==== Sys2Proof/Machine/Sign.lean ====
section
/-! DEFINITION. The roof sign and the rear lamp (11, R187, R188). -/

namespace Sys2Proof.Machine

/-- The table entry of a meter state (R188). -/
def signEntry (t : SignTable) : MeterState → Pattern
  | .offDuty => t.offDuty
  | .vacant => t.vacant
  | .assigned => t.assigned
  | .hired => t.hired
  | .payable => t.payable
  | .suspended => t.suspended

/-- The table with one entry replaced (R188). -/
def putSignEntry (t : SignTable) (v : Pattern) : MeterState → SignTable
  | .offDuty => { t with offDuty := v }
  | .vacant => { t with vacant := v }
  | .assigned => { t with assigned := v }
  | .hired => { t with hired := v }
  | .payable => { t with payable := v }
  | .suspended => { t with suspended := v }

/-- A generator that is started begins in its ON phase, for the on time (R187). -/
def startGenerator (v : Pattern) : Generator := ⟨v, true, v.on⟩

/-- A generator stopped dark (R187). -/
def darkGenerator : Generator := ⟨⟨0, 0⟩, false, 0⟩

/-- A pattern that blinks: both times above 0 (R187). -/
def blinks (v : Pattern) : Bool := decide (0 < v.on) && decide (0 < v.off)

/-- The phase of a blinking generator changes at the end of its phase time; a steady or dark one has no phases (R187). -/
def phaseEnds (g : Generator) : Generator :=
  if blinks g.pattern then ⟨g.pattern, !g.phaseOn, if g.phaseOn then g.pattern.off else g.pattern.on⟩ else g

/-- What a generator shows (R187): dark with an on time of 0, lit with an off time of 0, and its phase otherwise. -/
def lit (g : Generator) : Bool :=
  if g.pattern.on = 0 then false else if g.pattern.off = 0 then true else g.phaseOn

/-- The SIGN output (R187). -/
def signLit (p : Part) : Bool := lit p.sign.sign

/-- The ALERT output (R187). -/
def alertLit (p : Part) : Bool := lit p.sign.alert

/-- The owner of SIGN by the open-alert flag (R187). -/
def wantedOwner (p : Part) : SignOwner := if p.emg.openAlert then .openAlert else .meter

/-- The pattern of SIGN by its owner (R187). -/
def wantedPattern (p : Part) : Pattern := if p.emg.openAlert then ⟨2, 2⟩ else signEntry p.sign.table p.meter.state

/-- The SIGN generator follows its owner and pattern: started anew at a change of either, running on otherwise (R187). -/
def followSign (p : Part) : Part :=
  if p.sign.owner = wantedOwner p ∧ p.sign.sign.pattern = wantedPattern p then p
  else p.setSign { p.sign with sign := startGenerator (wantedPattern p), owner := wantedOwner p }

/-- The on and off time of a SET_SIGN_PATTERN, when both lie in 0 to 255: other times are not of the item's form, and the
port answers them BAD (R188, R191; log 20). -/
def signTimes (times : Option (Nat × Nat)) : Option (Nat × Nat) :=
  times.filter (fun t => decide (t.1 ≤ 255) && decide (t.2 ≤ 255))

/-- SET_SIGN_PATTERN (R188): BAD for no meter state of the six; otherwise the entry's nonvolatile write begins, and the
response waits for it. -/
def requestSignPattern (state : Option MeterState) (times : Nat × Nat) (p : Part) : Part :=
  match state with
  | none => answer .bad .none p
  | some st => p.setSign { p.sign with write := some (st, ⟨times.1, times.2⟩) }

/-- A SET_SIGN_PATTERN at the port (R188, R191, R192). -/
def takeSignPattern (req : Nat) (state : Option MeterState) (times : Option (Nat × Nat)) (p : Part) : Part :=
  takeRequestWith req 18 (signTimes times) (requestSignPattern state) p

/-- The sign pattern write completes: the entry applies and OK is given (R188). -/
def signWriteCompletes (p : Part) : Part :=
  match p.sign.write with
  | none => p
  | some (st, v) =>
    answer .ok .none (followSign (p.setSign { p.sign with table := putSignEntry p.sign.table v st, write := none }))

/-- A phase time of one lamp's generator ends (R187). -/
def lampPhaseEnds (l : Lamp) (p : Part) : Part :=
  match l with
  | .sign => p.setSign { p.sign with sign := phaseEnds p.sign.sign }
  | .alert => p.setSign { p.sign with alert := phaseEnds p.sign.alert }

/-- PATTERN_PHASE_END (R187). -/
def execPatternPhaseEnd (lamp : Lamp) (s : State) : Host.Outcome State Fault Refusal :=
  .next { s with part := lampPhaseEnds lamp s.part }

/-- SET_SIGN_PATTERN (R188). -/
def execSetSignPattern (req : Nat) (state : Option MeterState) (times : Option (Nat × Nat)) (s : State) :
    Host.Outcome State Fault Refusal :=
  .next { s with part := takeSignPattern req state times s.part }

/-- SIGN_PATTERN_WRITE_COMPLETE (R188). -/
def execSignPatternWriteComplete (s : State) : Host.Outcome State Fault Refusal :=
  .next { s with part := signWriteCompletes s.part }

end Sys2Proof.Machine
end

