-- ==== Sys2Proof/Machine/Clock.lean ====
section
/-! DEFINITION. The time base (08): the meter second, the markers' time, the trim. -/

namespace Sys2Proof.Machine

/-- A change of the open trip, when there is one. -/
def onTrip (f : Trip → Trip) (p : Part) : Part := p.setMeter { p.meter with trip := p.meter.trip.map f }

/-- The time-of-day a second later (R142). -/
def nextTod (tod : Nat) : Nat := if 86399 ≤ tod then 0 else tod + 1

/-- The silence count a meter second later, staying at 120 (R142). -/
def nextSilence (n : Nat) : Nat := min 120 (n + 1)

/-- The clock state a meter second later: a count that reaches 120 while SYNCED makes it FREE (R142). -/
def nextClockState (st : ClockState) (silence : Nat) : ClockState :=
  if st = .synced ∧ 120 ≤ nextSilence silence then .free else st

/-- The end of a meter second in the time base (R142, steps 1 to 3): time-of-day, silence count, clock state, and the
CLOCK_FREE mark of a trip charged on a free clock (R144). The next meter second has the length that the trim gives it. -/
def clockSecond (p : Part) : Part :=
  let c := p.clock
  let p := p.setClock
    { c with tod := nextTod c.tod, silence := nextSilence c.silence, state := nextClockState c.state c.silence,
             local_ := max c.local_ c.secondEnd, secondEnd := c.secondEnd + (1000000 + c.trim).toNat }
  if p.clock.state = .free ∧ p.meter.state = .hired then onTrip (fun t => { t with clockFree := true }) p else p

/-- The step of a marker's time-of-day, -43,200 to 43,199 (R143). -/
def clockStep (markerTod tod : Nat) : Int :=
  let d := (markerTod + 86400 - tod) % 86400
  if 43200 ≤ d then (d : Int) - 86400 else d

/-- The measured error x of the local oscillator in ppm (R146): E is the counter's span, L the window's length in ms. -/
def trimError (span : Int) (len : Nat) : Int :=
  roundHalfAway ((span - (64 * len * 1000 : Nat)) * 1000000) (64 * len * 1000)

/-- The trim after an evaluation, absent when the window is discarded (R146). -/
def trimAfter (t : Int) (span : Int) (len : Nat) : Option Int :=
  let x := trimError span len
  if 400 < x.natAbs then none else some (clampInt (-200) 200 (t + roundHalfAway (x - t) 2))

/-- A window that starts at a marker (R145). -/
def startWindow (arrival cycle len : Nat) : TrimWindow := ⟨arrival, cycle, 0, len⟩

/-- The marker continues the window (R145): in sequence, the next cycle, and the same L. -/
def windowContinues (w : TrimWindow) (cycle len : Nat) (inSeq : Bool) : Bool :=
  inSeq && cycle == cycleAfter 1 w.lastCycle && len == w.len

/-- The marker brings the interval count to 64 (R145, R146). -/
def windowFills (p : Part) (cycle : Nat) (inSeq : Bool) (len : Nat) : Bool :=
  match p.clock.window with
  | none => false
  | some w => windowContinues w cycle len inSeq && decide (63 ≤ w.count)

/-- A new trim is taken into use and its nonvolatile write starts; a discarded window starts none (R146, R147). -/
def useTrim (t : Option Int) (p : Part) : Part :=
  match t with
  | none => p
  | some v => p.setClock { p.clock with trim := v, trimWrite := some v }

/-- The trim window advances or restarts at a marker taken (R145); at 64 intervals it is evaluated (R146). After a fleet
restart it restarts by a gap in the cycle numbers, and without a gap it goes on (R149; log 41). -/
def advanceWindow (arrival cycle : Nat) (inSeq : Bool) (p : Part) : Part :=
  match p.clock.window with
  | none => p.setClock { p.clock with window := some (startWindow arrival cycle p.ctl.len) }
  | some w =>
    if windowContinues w cycle p.ctl.len inSeq then
      if 63 ≤ w.count then
        let p := useTrim (trimAfter p.clock.trim ((arrival : Int) - w.start) w.len) p
        p.setClock { p.clock with window := some (startWindow arrival cycle p.ctl.len) }
      else p.setClock { p.clock with window := some { w with count := w.count + 1, lastCycle := cycle } }
    else p.setClock { p.clock with window := some (startWindow arrival cycle p.ctl.len) }

/-- The time base disregards a marker whose time-of-day or day class is out of range (R143). -/
def markerTimeOk (m : Marker) : Bool := decide (m.tod ≤ 86399) && decide (m.day ≤ 3)

/-- The time base takes a heard marker (R143): the step and CLOCK, the time and day class, SYNCED, the trim window. -/
def takeMarkerTime (m : Marker) (arrival : Nat) (inSeq : Bool) (p : Part) : Part :=
  if markerTimeOk m then
    let p := if p.clock.state ≠ .unset ∧ 60 < (clockStep m.tod p.clock.tod).natAbs then setFlag .clock p else p
    let p := p.setClock { p.clock with tod := m.tod, day := m.day, silence := 0, state := .synced }
    advanceWindow arrival m.cycle inSeq p
  else p

/-- The nonvolatile write of the trim completes (R147). -/
def trimWriteCompletes (p : Part) : Part :=
  match p.clock.trimWrite with
  | none => p
  | some v => p.setClock { p.clock with trimNv := v, trimWrite := none }

/-- TRIM_WRITE_COMPLETE (R147). -/
def execTrimWriteComplete (s : State) : Host.Outcome State Fault Refusal :=
  .next { s with part := trimWriteCompletes s.part }

end Sys2Proof.Machine
end

