-- ==== Sys2Proof/Machine/Fare.lean ====
section
/-! DEFINITION. Fare arithmetic (06): weights, charging, drops, band selection, tariff change, extras, charged fare. -/

namespace Sys2Proof.Machine

/-! ### Weights (R106) -/

/-- The accounts with a tariff's parameters copied and its weights computed from K (R106). -/
def loadTariff (t : Tariff) (k : Nat) (f : Fare) : Fare :=
  { f with
    tariff := t.number, flagfall := t.flagfall, drop := t.drop, distStep := t.distStep, timeStep := t.timeStep,
    initial := t.initial, mode := t.mode,
    wp := 1000 * t.timeStep, ws := t.distStep * k, q := t.distStep * k * t.timeStep,
    q1 := if 0 < t.initial then t.initial * k * t.timeStep else t.distStep * k * t.timeStep }

/-! ### Band selection (R112, R113) -/

/-- The row of greatest start minute, the first in table order among equals (R112). -/
def latestRow : List BandRow → Option BandRow
  | [] => none
  | r :: rs =>
    match latestRow rs with
    | none => some r
    | some b => if r.start < b.start then some b else some r

/-- The candidate rows of an area and a day class (R112). -/
def candidateRows (img : Image) (area day : Nat) : List BandRow :=
  img.bands.filter (fun r => r.area == area && r.days.contains day)

/-- The default tariff of an area (R112). -/
def defaultTariff (img : Image) (area : Nat) : Nat := img.defaults.getD area 0

/-- The tariff selected for an area, a day class and a minute of the day (R112). -/
def selectTariff (img : Image) (area day minute : Nat) : Nat :=
  match latestRow ((candidateRows img area day).filter (fun r => decide (r.start ≤ minute))) with
  | some r => r.tariff
  | none =>
    match latestRow (candidateRows img area day) with
    | some r => r.tariff
    | none => defaultTariff img area

/-- The tariff selected under a clock state: the area's default while UNSET (R113). -/
def bandTariff (img : Image) (clock : ClockState) (area day tod : Nat) : Nat :=
  match clock with
  | .unset => defaultTariff img area
  | .synced => selectTariff img area day (tod / 60)
  | .free => selectTariff img area day (tod / 60)

/-- The parameters of a tariff number in an image (R106; log 29). -/
def tariffOf (img : Image) (n : Nat) : Tariff := (img.tariffs.find? (fun t => t.number == n)).getD default

/-! ### The charged fare (R117, R118) -/

/-- The largest amount (00, Amounts). -/
def maxAmount : Nat := 999999

/-- The charged fare before clamping (R118). -/
def fareDue (price : Price) (metered extras : Nat) : Nat :=
  match price with
  | .unpriced => metered + extras
  | .fixed v => v + extras
  | .cap v => min metered v + extras

/-- The charged fare is formed; a result held at 999,999 sets SATURATED (R118). -/
def formCharged (price : Price) (f : Fare) : Fare :=
  let d := fareDue price f.metered f.extrasTotal
  { f with charged := min maxAmount d, saturated := f.saturated || decide (maxAmount < d) }

/-- The amount of an extra in an image (R117). -/
def extraAmount (img : Image) (n : Nat) : Nat := ((img.extras.find? (fun e => e.number == n)).map ExtraDef.amount).getD 0

/-- The extras entries with their subtotals (R117). -/
def extraEntries (img : Image) (extras : List (Nat × Nat)) : List ExtraEntry :=
  extras.map (fun e => ⟨e.1, e.2, min maxAmount (e.2 * extraAmount img e.1)⟩)

/-- The sum of the subtotals (R117). -/
def extrasSum (es : List ExtraEntry) : Nat := es.foldl (fun n e => n + e.subtotal) 0

/-- A subtotal or the total is held at 999,999 (R117). -/
def extrasHeld (img : Image) (extras : List (Nat × Nat)) : Bool :=
  extras.any (fun e => decide (maxAmount < e.2 * extraAmount img e.1)) ||
    decide (maxAmount < extrasSum (extraEntries img extras))

/-- The extras total is reformed (R117). -/
def reformExtras (img : Image) (extras : List (Nat × Nat)) (f : Fare) : Fare :=
  { f with extrasTotal := min maxAmount (extrasSum (extraEntries img extras)),
           saturated := f.saturated || extrasHeld img extras }

/-! ### Opening the accounts (R107) -/

/-- The accounts opened at a HIRE (R107): starting tariff n, area, K, price. -/
def openFare (img : Image) (n area k : Nat) (price : Price) : Fare :=
  let f := loadTariff (tariffOf img n) k default
  formCharged price
    { f with
      threshold := f.q1, progress := 0, firstDrop := false, metered := f.flagfall,
      usage := [⟨n, area, 0, 0⟩], hiredPulses := 0, hiredSeconds := 0, waitingSeconds := 0, extrasTotal := 0,
      saturated := false, capped := false, usageTruncated := false,
      fixed := match price with | .fixed _ => true | .unpriced => false | .cap _ => false }

/-! ### Charging a second (R108 to R110) -/

/-- The contribution of a second of p pulses by the mode of the tariff in force (R108). -/
def contribution (f : Fare) (p : Nat) : Nat :=
  match f.mode with
  | .single => max (p * f.wp) f.ws
  | .double => p * f.wp + f.ws

/-- The last entry of a usage list changed. -/
def onLast (g : UsageEntry → UsageEntry) : List UsageEntry → List UsageEntry
  | [] => []
  | [u] => [g u]
  | u :: v :: us => u :: onLast g (v :: us)

/-- One drop (R109). -/
def makeDrop (f : Fare) : Fare :=
  { f with
    metered := min maxAmount (f.metered + f.drop),
    saturated := f.saturated || decide (maxAmount < f.metered + f.drop),
    progress := f.progress - f.threshold,
    usage := onLast (fun u => { u with drops := min 65535 (u.drops + 1) }) f.usage,
    threshold := f.q, firstDrop := true }

/-- Drops are made while the progress is at least the threshold (R109). The count of repetitions bounds them: each lowers
the progress by a threshold of at least 1. -/
def makeDrops : Nat → Fare → Fare
  | 0, f => f
  | n + 1, f => if f.threshold ≤ f.progress then makeDrops n (makeDrop f) else f

/-- A second's contribution is added and its drops are made (R108, R109). -/
def chargeDrops (p : Nat) (f : Fare) : Fare :=
  let f := { f with progress := f.progress + contribution f p }
  makeDrops (f.progress + 1) f

/-- The second is counted; it is a waiting second when its distance is worth less than its time, by the weights that
charged it (R110). -/
def countSecond (p : Nat) (f : Fare) : Fare :=
  { f with
    hiredSeconds := satAdd 16777215 f.hiredSeconds 1,
    hiredPulses := satAdd 4294967295 f.hiredPulses p,
    waitingSeconds := if p * f.wp < f.ws then satAdd 16777215 f.waitingSeconds 1 else f.waitingSeconds }

/-! ### Tariff change (R114 to R116) -/

/-- A new usage entry: appended, or overwriting the 6th with its drop count kept (R116). -/
def openUsage (n area start : Nat) (us : List UsageEntry) : List UsageEntry :=
  if us.length < 6 then us ++ [⟨n, area, 0, start⟩]
  else onLast (fun u => { u with tariff := n, area := area, start := start }) us

/-- A tariff change: parameters and weights, the progress rescaled by the thresholds, a usage entry (R115, R116). -/
def changeTariff (img : Image) (n area k : Nat) (f : Fare) : Fare :=
  let g := loadTariff (tariffOf img n) k f
  let t := if f.firstDrop then g.q else g.q1
  { g with
    progress := f.progress * t / f.threshold, threshold := t,
    usage := openUsage n area f.hiredSeconds f.usage,
    usageTruncated := f.usageTruncated || decide (6 ≤ f.usage.length) }

/-- The band evaluation after a charged second: a different tariff number is a tariff change, the same number is none
(R114). -/
def evaluateBand (img : Image) (n area k : Nat) (f : Fare) : Fare :=
  if f.tariff = n then f else changeTariff img n area k f

/-- One charged second at the fare engine, all of it (R108 to R110, R114 to R116, R118): n is the tariff that the band
evaluation selects. -/
def chargeSecond (img : Image) (n area k pulses : Nat) (price : Price) (f : Fare) : Fare :=
  formCharged price (evaluateBand img n area k (countSecond pulses (chargeDrops pulses f)))

end Sys2Proof.Machine
end

