-- ==== Sys2Proof/Machine/Tariff.lean ====
section
/-! DEFINITION. The tariff store (07): images and their validation, loading, activation, the beginning and the end of a
swap in the store itself. The meter's part of a swap is in Meter.lean. -/

namespace Sys2Proof.Machine

/-! ### Banks and images -/

/-- The ACTIVE bank (R125). -/
def activeBank (t : TariffStore) : Bank := if t.oneActive then t.bank1 else t.bank0

/-- The STAGING bank (R125). -/
def stagingBank (t : TariffStore) : Bank := if t.oneActive then t.bank0 else t.bank1

/-- The STAGING bank's contents replaced: the store writes into no other bank (R125). -/
def putStaging (b : Bank) (t : TariffStore) : TariffStore :=
  if t.oneActive then { t with bank0 := b } else { t with bank1 := b }

/-- The image the fare engine and the meter read (R123, R125; log 29 where there is none). -/
def activeImage (p : Part) : Image := (activeBank p.tariff).image.getD default

/-- The image's bytes: all page count × 64 bytes in page order (R124). -/
def imageBytes (count : Nat) (b : Bank) : List Byte := (b.pages.take count).flatMap (fun pg => pg.getD [])

/-- A tariff's fields lie in their ranges (R123). -/
def tariffOk (t : Tariff) : Bool :=
  decide (1 ≤ t.number) && decide (t.number ≤ 8) && decide (t.flagfall ≤ 999999) && decide (1 ≤ t.drop) &&
  decide (t.drop ≤ 99999) && decide (10 ≤ t.distStep) && decide (t.distStep ≤ 2000) && decide (1 ≤ t.timeStep) &&
  decide (t.timeStep ≤ 600) && decide (t.initial ≤ 20000)

/-- The image defines a tariff number (R124). -/
def definesTariff (img : Image) (n : Nat) : Bool := img.tariffs.any (fun t => t.number == n)

/-- A band row's fields lie in their ranges and it names a defined tariff (R124). -/
def bandOk (img : Image) (r : BandRow) : Bool :=
  decide (r.area ≤ 3) && decide (r.start ≤ 1439) && !r.days.isEmpty && r.days.all (fun d => decide (d ≤ 3)) &&
  definesTariff img r.tariff

/-- An extras entry's amount and maximum count lie in their ranges (R123, R124). R124's list holds no check of the extra's
number against R123's range. -/
def extraOk (e : ExtraDef) : Bool :=
  decide (e.amount ≤ 999999) && decide (1 ≤ e.maxCount) && decide (e.maxCount ≤ 9)

/-- The tables of an image satisfy R124. -/
def tablesValid (img : Image) : Bool :=
  decide (1 ≤ img.tariffs.length) && decide (img.tariffs.length ≤ 8) &&
  decide ((img.tariffs.map Tariff.number).Nodup) && img.tariffs.all tariffOk &&
  decide (img.bands.length ≤ 24) && img.bands.all (bandOk img) &&
  decide (img.defaults.length = 4) && img.defaults.all (definesTariff img) &&
  decide (img.extras.length ≤ 8) && decide ((img.extras.map ExtraDef.number).Nodup) && img.extras.all extraOk

/-- An image is valid (R124): its bytes' CRC, its declared length, its version, and its tables. -/
def imageValid (version count : Nat) (crc : Crc) (bytes : List Byte) (img : Image) : Bool :=
  decide (crc16 bytes = crc) && decide ((count - 1) * 64 + 1 ≤ img.length) && decide (img.length ≤ count * 64) &&
  decide (img.version = version) && tablesValid img

/-! ### Loading (R126 to R131) -/

/-- TARIFF BEGIN (R126, R138). -/
def beginLoad (version count : Nat) (crc : Crc) (p : Part) : Part :=
  if p.tariff.activity = .swapping then p
  else if 1 ≤ version ∧ version ≤ 65535 ∧ 1 ≤ count ∧ count ≤ 32 then
    p.setTariff
      { putStaging { stagingBank p.tariff with image := none, count := none, crc := none } p.tariff with
        activation := none, buffer := none, loadVersion := some version, pageCount := some count, imageCrc := some crc,
        staging := .clearing, activity := .clearing, missing := List.range count }
  else setFlag .loadError p

/-- The clear completes: the STAGING bank holds no data of any earlier image (R127). -/
def clearCompletes (p : Part) : Part :=
  if p.tariff.activity = .clearing then
    p.setTariff { putStaging Bank.blank p.tariff with staging := .loading, activity := .idle }
  else p

/-- A page's index returns to the missing set, which stays in ascending order (R130). -/
def missingAgain (i : Nat) (missing : List Nat) : List Nat :=
  (List.range 32).filter (fun j => j == i || missing.contains j)

/-- A page in LOADING (R129, R130): a missing page is buffered and its write begins, or is discarded while the buffer is
occupied; a page already written is compared. -/
def takePage (i : Nat) (bytes : List Byte) (p : Part) : Part :=
  if p.tariff.buffer.isSome ∨ p.tariff.activity ≠ .idle then p
  else if p.tariff.missing.contains i then
    p.setTariff { p.tariff with buffer := some (i, bytes), activity := .writing }
  else if (stagingBank p.tariff).pages.getD i none = some bytes then p
  else setFlag .loadError (p.setTariff { p.tariff with missing := missingAgain i p.tariff.missing })

/-- TARIFF PAGE, judged in R128's order. -/
def receivePage (version i : Nat) (bytes : List Byte) (p : Part) : Part :=
  if p.tariff.activity = .swapping then p
  else
    match p.tariff.staging with
    | .empty => p
    | .staged => p
    | .rejected => p
    | .superseded => p
    | .clearing => p
    | .loading =>
      if p.tariff.loadVersion ≠ some version then p
      else if p.tariff.pageCount.getD 0 ≤ i then p
      else takePage i bytes p

/-- The complete image is checked: STAGED, or REJECTED with LOAD_ERROR (R131). -/
def checkImage (p : Part) : Part :=
  let t := p.tariff
  let count := t.pageCount.getD 0
  let bytes := imageBytes count (stagingBank t)
  let img := Config.readImage bytes
  let bank := { stagingBank t with image := some img, count := t.pageCount, crc := t.imageCrc }
  if imageValid (t.loadVersion.getD 0) count (t.imageCrc.getD 0) bytes img then
    p.setTariff { putStaging bank t with staging := .staged }
  else setFlag .loadError (p.setTariff { putStaging bank t with staging := .rejected })

/-- A page write completes (R129): the page is written and leaves the missing set, the buffer is free, and the image is
checked when no page is missing. -/
def pageWriteCompletes (p : Part) : Part :=
  match p.tariff.buffer with
  | none => p
  | some (i, bytes) =>
    if p.tariff.activity = .writing then
      let bank := stagingBank p.tariff
      let missing := p.tariff.missing.filter (fun j => j != i)
      let p := p.setTariff
        { putStaging { bank with pages := bank.pages.set i (some bytes) } p.tariff with
          missing := missing, buffer := none, activity := .idle }
      if missing.isEmpty then checkImage p else p
    else p

/-! ### Activation (R133 to R136) -/

/-- A trip is open, as the meter reports it (R135). -/
def tripOpen (st : MeterState) : Bool :=
  match st with
  | .offDuty => false
  | .vacant => false
  | .assigned => false
  | .hired => true
  | .payable => true
  | .suspended => true

/-- An activation becomes due at an evaluation (R134). -/
def becomesDue (a : PendingActivation) (clock : ClockState) (tod : Nat) : Bool :=
  match a.time with
  | .now => true
  | .timed t days => decide (days = 0) && decide (clock ≠ .unset) && decide (t ≤ tod)

/-- An evaluation (R135): the due mark is set if R134 makes the activation due; a due one begins a swap when no trip is
open and no swap is in flight (R136). -/
def evaluateActivation (p : Part) : Part :=
  match p.tariff.activation with
  | none => p
  | some a =>
    let due := a.due || becomesDue a p.clock.state p.clock.tod
    let p := p.setTariff { p.tariff with activation := some { a with due := due } }
    if due && !tripOpen p.meter.state && decide (p.tariff.activity ≠ .swapping) then
      p.setTariff { p.tariff with activity := .swapping }
    else p

/-- One midnight counted against an activation: days remaining falls by one if it is above 0 (R134). -/
def lowerDays (a : PendingActivation) : PendingActivation :=
  match a.time with
  | .now => a
  | .timed t days => { a with time := .timed t (days - 1) }

/-- The time-of-day read at a meter second shows that a midnight has passed: a fall of more than 43,200 s (R134). -/
def midnightPassed (last : Option Nat) (tod : Nat) : Bool :=
  match last with
  | none => false
  | some l => decide (tod + 43200 < l)

/-- Midnights are counted and the last time read is renewed (R134). -/
def countMidnight (p : Part) : Part :=
  p.setTariff
    { p.tariff with
      activation := if midnightPassed p.tariff.lastTod p.clock.tod then p.tariff.activation.map lowerDays else p.tariff.activation,
      lastTod := some p.clock.tod }

/-- The tariff store takes a meter second (R134, R135). -/
def storeSecond (p : Part) : Part := evaluateActivation (countMidnight p)

/-- The pending activation that a TARIFF ACTIVATE asks for; none when its mode or values are not of the form (R133). -/
def activationAsked (version : Nat) : ActivateMode → Option PendingActivation
  | .now => some ⟨version, .now, false⟩
  | .timed tod days => if tod ≤ 86399 ∧ days ≤ 6 then some ⟨version, .timed tod days, false⟩ else none
  | .unknown => none

/-- TARIFF ACTIVATE (R133, R138). -/
def activate (version : Nat) (mode : ActivateMode) (p : Part) : Part :=
  if p.tariff.activity = .swapping then p
  else
    match activationAsked version mode with
    | none => setFlag .loadError p
    | some a =>
      if p.tariff.staging = .staged ∧ p.tariff.loadVersion = some version then
        evaluateActivation (p.setTariff { p.tariff with activation := some a })
      else setFlag .loadError p

/-- The staging record emptied (R139, R141). -/
def emptyStaging (t : TariffStore) : TariffStore :=
  { t with staging := .empty, loadVersion := none, pageCount := none, imageCrc := none, missing := [], buffer := none,
           activity := .idle }

/-- TARIFF ABANDON (R138, R139). -/
def abandon (p : Part) : Part :=
  if p.tariff.activity = .swapping ∨ p.tariff.staging = .empty then p
  else p.setTariff { emptyStaging p.tariff with activation := none }

/-- The role record after a swap (R136). -/
def swapRoles (t : TariffStore) : TariffStore :=
  { t with
    oneActive := !t.oneActive, activeVersion := t.loadVersion.getD 0,
    staging := if t.activeVersion = 0 then .empty else .superseded,
    loadVersion := if t.activeVersion = 0 then none else some t.activeVersion,
    pageCount := none, imageCrc := none, activation := none, missing := [], buffer := none, activity := .idle }

/-- The state of the store after a start-up or a fleet restart, apart from a swap in flight (R141): a load in progress is
emptied, and no page is missing or held. -/
def storeAfterRestart (t : TariffStore) : TariffStore :=
  let swapping := decide (t.activity = .swapping)
  let t := if t.staging = .clearing ∨ t.staging = .loading then emptyStaging t else t
  { t with missing := [], buffer := none, activity := if swapping then .swapping else .idle, lastTod := none }

/-! ### Commands -/

/-- TARIFF_BEGIN (R126). -/
def execTariffBegin (h : AirHeader) (version pageCount : Nat) (crc : Crc) (s : State) : Host.Outcome State Fault Refusal :=
  .next { s with part := receiveFrame h (beginLoad version pageCount crc) s.part }

/-- CLEAR_COMPLETE (R127). -/
def execClearComplete (s : State) : Host.Outcome State Fault Refusal := .next { s with part := clearCompletes s.part }

/-- TARIFF_PAGE (R128). -/
def execTariffPage (h : AirHeader) (version index : Nat) (bytes : List Byte) (s : State) : Host.Outcome State Fault Refusal :=
  .next { s with part := receiveFrame h (receivePage version index bytes) s.part }

/-- PAGE_WRITE_COMPLETE (R129). -/
def execPageWriteComplete (s : State) : Host.Outcome State Fault Refusal :=
  .next { s with part := pageWriteCompletes s.part }

/-- TARIFF_ACTIVATE (R133). -/
def execTariffActivate (h : AirHeader) (version : Nat) (mode : ActivateMode) (s : State) : Host.Outcome State Fault Refusal :=
  .next { s with part := receiveFrame h (activate version mode) s.part }

/-- TARIFF_ABANDON (R139). -/
def execTariffAbandon (h : AirHeader) (s : State) : Host.Outcome State Fault Refusal :=
  .next { s with part := receiveFrame h abandon s.part }

end Sys2Proof.Machine
end

