-- ==== Sys2Proof/Machine/TripLog.lean ====
section
/-! DEFINITION. The trip log and totals (09): records, closing, log updates, totalizers, shifts. Delivery and the queue's
reports are in Uplink.lean. -/

namespace Sys2Proof.Machine

/-! ### Records and totals -/

/-- The hired distance of a record in metres (R151). -/
def hiredDistance (pulses k : Nat) : Nat := min 99999999 (pulses * 1000 / k)

/-- The record of a closed trip (R119, R151): the meter's fields, the fare accounts f as closed, the derived figures. -/
def closedRecord (t : Trip) (f : Fare) (p : Part) : TripRecord where
  number := t.number
  shift := t.shift
  jobId := t.jobId
  price := t.price
  imageVersion := t.imageVersion
  startTod := t.startTod
  startDay := t.startDay
  endTod := p.clock.tod
  startZone := t.startZone
  endZone := p.zones.zone
  distance := hiredDistance f.hiredPulses p.meter.k
  waiting := f.waitingSeconds
  hiredSeconds := f.hiredSeconds
  metered := f.metered
  extras := extraEntries (activeImage p) t.extras
  extrasTotal := f.extrasTotal
  charged := f.charged
  usage := f.usage
  flags :=
    { saturated := f.saturated, fixed := f.fixed, capped := f.capped, powerInterrupted := t.powerInterrupted,
      clockFree := t.clockFree, clockUnset := t.clockUnset, pulseClamped := t.pulseClamped,
      distanceSuspect := t.distanceSuspect, usageTruncated := f.usageTruncated }
  delivery := .undelivered

/-- The totalizers after a CLOSE (R157). -/
def totalsAtClose (r : TripRecord) (t : Totalizers) : Totalizers :=
  { t with
    hires := (t.hires + 1) % 100000000,
    hired := (t.hired + (t.metreResidual + r.distance) / 100) % 100000000,
    metreResidual := (t.metreResidual + r.distance) % 100,
    fares := (t.fares + r.charged) % 10000000000 }

/-- The shift totals after a CLOSE (R160). -/
def shiftAtClose (r : TripRecord) (s : Shift) : Shift :=
  { s with
    sums :=
      { s.sums with
        trips := satAdd 65535 s.sums.trips 1,
        hired := satAdd 99999999 s.sums.hired r.distance,
        waiting := satAdd 99999999 s.sums.waiting r.waiting,
        charged := satAdd 99999999 s.sums.charged r.charged,
        extras := satAdd 99999999 s.sums.extras r.extrasTotal,
        fixedTrips := if r.flags.fixed then satAdd 65535 s.sums.fixedTrips 1 else s.sums.fixedTrips,
        cappedTrips := if r.flags.capped then satAdd 65535 s.sums.cappedTrips 1 else s.sums.cappedTrips } }

/-- The log holds 32 records, so the oldest makes room (R152). -/
def logFull (rs : List TripRecord) : Bool := decide (32 ≤ rs.length)

/-- A CLOSE in the log (R152, steps 2 to 6): eviction, the record placed last, the counter, the totals, the log update,
the delivery offer. -/
def logClose (r : TripRecord) (p : Part) : Part :=
  let l := p.log
  let evict := logFull l.records
  let lost := evict && l.records.head?.any (fun o => decide (o.delivery ≠ .delivered))
  let totals := totalsAtClose r l.totals
  let p := if lost then setFlag .tripLost p else p
  let p := p.setLog
    { l with records := (if evict then l.records.drop 1 else l.records) ++ [r], tripCounter := r.number, totals := totals,
             shift := l.shift.map (shiftAtClose r) }
  deliveryOffer (addLogChange (.closed r evict r.number totals) p)

/-- Total distance from a meter second's pulses (R157). -/
def advanceDistance (k pulses : Nat) (t : Totalizers) : Totalizers :=
  { t with
    distance := (t.distance + (t.distResidual + 1000 * pulses) / (100 * k)) % 100000000,
    distResidual := (t.distResidual + 1000 * pulses) % (100 * k) }

/-- Vacant distance from a meter second's pulses (R160). -/
def advanceVacant (k pulses : Nat) (s : Shift) : Shift :=
  { s with
    sums := { s.sums with vacant := satAdd 99999999 s.sums.vacant ((s.residual + 1000 * pulses) / k) },
    residual := (s.residual + 1000 * pulses) % k }

/-- The totals block takes a meter second's pulses and the meter state (R96, R157, R160). -/
def totalsSecond (pulses : Nat) (p : Part) : Part :=
  let vacant := decide (p.meter.state = .vacant) || decide (p.meter.state = .assigned)
  p.setLog
    { p.log with
      totals := advanceDistance p.meter.k pulses p.log.totals,
      shift := if vacant then p.log.shift.map (advanceVacant p.meter.k pulses) else p.log.shift }

/-! ### Shifts (R159, R161) -/

/-- Every count and sum at 0 (R159). -/
def zeroSums : ShiftSums := ⟨0, 0, 0, 0, 0, 0, 0, 0⟩

/-- A shift is opened (R159). -/
def openShift (p : Part) : Part :=
  let n := nextNumber 65535 p.log.shiftCounter
  addLogChange (.shiftNumber n)
    (p.setLog { p.log with shiftCounter := n, shift := some ⟨n, p.clock.tod, p.clock.day, zeroSums, 0⟩ })

/-- The summary of a shift (R161). -/
def summaryOf (s : Shift) (endTod : Nat) : ShiftSummary := ⟨s.number, s.startTod, s.startDay, endTod, s.sums⟩

/-- The shift is closed (R161, steps 1 to 5). -/
def closeShift (p : Part) : Part :=
  match p.log.shift with
  | none => p
  | some s =>
    let p :=
      match p.log.summary with
      | some (_, .queued) => removeEntry .shiftSummary none p
      | _ => p
    let p := p.setLog { p.log with summary := some (summaryOf s p.clock.tod, .pending), shift := none }
    summaryOffer (addLogChange (.totals p.log.totals) p)

/-! ### Log updates (R153) -/

/-- A change written to the nonvolatile contents (R152, R153, R155, R158, R159). -/
def writeChange (n : LogStore) : LogChange → LogStore
  | .closed r evict counter totals =>
    { n with records := (if evict then n.records.drop 1 else n.records) ++ [r], tripCounter := counter, totals := totals }
  | .delivered number => { n with records := markRecord number .delivered n.records }
  | .shiftNumber number => { n with shiftCounter := number }
  | .totals copy => { n with totals := copy }

/-- Changes are applied in the order in which they arrived (R153). -/
def writeChanges (cs : List LogChange) (n : LogStore) : LogStore := cs.foldl writeChange n

/-- A log update completes, and the waiting changes, if any, begin the next one together (R153). -/
def logUpdateCompletes (p : Part) : Part :=
  match p.log.inFlight with
  | none => p
  | some cs =>
    p.setLog
      { p.log with
        nv := writeChanges cs p.log.nv,
        inFlight := if p.log.waiting.isEmpty then none else some p.log.waiting,
        waiting := [] }

/-- The waiting changes begin an update (R153): at the completion of the one in flight, or at once when none is (log 9). -/
def logUpdateBegins (p : Part) : Part :=
  if p.log.waiting.isEmpty then p
  else
    match p.log.inFlight with
    | some _ => logUpdateCompletes p
    | none => p.setLog { p.log with inFlight := some p.log.waiting, waiting := [] }

/-- LOG_UPDATE_BEGIN (R153). -/
def execLogUpdateBegin (s : State) : Host.Outcome State Fault Refusal := .next { s with part := logUpdateBegins s.part }

/-- LOG_UPDATE_COMPLETE (R153). -/
def execLogUpdateComplete (s : State) : Host.Outcome State Fault Refusal :=
  .next { s with part := logUpdateCompletes s.part }

end Sys2Proof.Machine
end

