-- ==== Sys2Proof/Machine/OfferTable.lean ====
section
/-! DEFINITION. Shared operations of the offer table (04): places, notices, and the closures that other blocks ask for. -/

namespace Sys2Proof.Machine

/-! ### Places (R65) -/

/-- The table without the oldest CLOSED entry, absent when none is CLOSED (R65). -/
def evictClosed : List Offer → Option (List Offer)
  | [] => none
  | o :: os => if o.state = .closed then some os else (evictClosed os).map (fun r => o :: r)

/-- A new entry takes a place: last while the table holds fewer than 8, else in place of the oldest CLOSED one; absent when
there is no place (R65). -/
def placeOffer (o : Offer) (os : List Offer) : Option (List Offer) :=
  if os.length < 8 then some (os ++ [o]) else (evictClosed os).map (fun r => r ++ [o])

/-! ### Notices (R66) -/

/-- An OFFER notice of an entry (R66). -/
def offerNotice (o : Offer) : NoticeBody :=
  .offer
    { id := o.id, kind := o.kind, pickup := o.pickup, jobClass := o.jobClass, price := o.price, note := o.note,
      deadline := o.deadline, state := o.state }

/-! ### Closures -/

/-- An open offer: PRESENTED, ACCEPTED or BID_SENT (R78). -/
def openOffer (o : Offer) : Bool :=
  match o.state with
  | .presented => true
  | .accepted => true
  | .bidSent => true
  | .awarded => false
  | .closed => false

/-- The offer table asks the queue to remove an entry's BID (R40). -/
def removeBid (id : Nat) (p : Part) : Part := removeEntry .bid (some id) p

/-- An entry closes, its BID removed when it is ACCEPTED. -/
def closeWithBid (reason : CloseReason) (o : Offer) (p : Part) : Part :=
  closeOffer o.id reason none (if o.state = .accepted then removeBid o.id p else p)

/-- At the meter's change from VACANT to HIRED or OFF_DUTY every open offer closes with CANCELLED, in table order (R78). -/
def cancelOpenOffers (p : Part) : Part :=
  (p.offers.filter openOffer).foldl (fun p o => closeWithBid .cancelled o p) p

/-- At the entry to ALERT every PRESENTED entry closes with SUPPRESSED, in table order (R79). -/
def suppressOffers (p : Part) : Part :=
  (p.offers.filter (fun o => decide (o.state = .presented))).foldl (fun p o => closeOffer o.id .suppressed none p) p

end Sys2Proof.Machine
end

