-- ==== Sys2Proof/Machine/Meter.lean ====
section
/-! DEFINITION. The meter (05): STATUS, METER notices, changes of state, the requests of the terminal, trips, calibration,
and the meter's part of a bank swap. -/

namespace Sys2Proof.Machine

/-! ### What the meter shows (R94, R102) -/

/-- The fix age as it is reported: 255 while no last fix is present (R49, R59). -/
def reportedAge (p : Part) : Nat :=
  match p.zones.lastFix with
  | none => 255
  | some _ => p.zones.age

/-- The awarded offer id, present when the meter is ASSIGNED (R94, R102, R103). -/
def shownAward (m : Meter) : Option Nat := if m.state = .assigned then m.awarded else none

/-- The STATUS body, formed at the event that offers it (R102). -/
def statusBody (p : Part) : StatusBody where
  meter := p.meter.state
  zone := p.zones.zone
  stale := p.zones.stale
  age := reportedAge p
  awarded := shownAward p.meter
  summary := flagSummary p.mgmt.flags

/-- The mode of a price (R94). -/
def priceMode : Price → PriceMode
  | .unpriced => .unpriced
  | .fixed _ => .fixed
  | .cap _ => .cap

/-- The trip part of a METER notice: the price mode alone, without its value (R94). -/
def meterTripBody (t : Trip) : MeterTripBody where
  number := t.number
  mode := priceMode t.price
  tariff := t.fare.tariff
  metered := t.fare.metered
  extrasTotal := t.fare.extrasTotal
  charged := t.fare.charged

/-- The METER notice (R94). -/
def meterNotice (p : Part) : NoticeBody := .meter p.meter.state (shownAward p.meter) (p.meter.trip.map meterTripBody)

/-- A METER notice is sent (R94). -/
def notifyMeter (p : Part) : Part := placeNotice (meterNotice p) p

/-- A STATUS is offered (R102). -/
def reportStatus (p : Part) : Part := offerStatus (statusBody p) p

/-- What each change of meter state hands on: STATUS, METER notice, sign driver (R93). -/
def handOn (p : Part) : Part := followSign (notifyMeter (reportStatus p))

/-- The meter state changes; a change out of OFF_DUTY is a wake event (R25, R93). The wake's LINK notice stands before the
METER notice (log 17). -/
def setMeterState (st : MeterState) (p : Part) : Part :=
  let q := p.setMeter { p.meter with state := st }
  handOn (if p.meter.state = .offDuty ∧ st ≠ .offDuty then wake q else q)

/-! ### The awarded job (R76, R92) -/

/-- The meter assigns itself to an entry; it takes the request in VACANT (R92). -/
def assignMeter (id : Nat) (p : Part) : Part :=
  if p.meter.state = .vacant then setMeterState .assigned (p.setMeter { p.meter with awarded := some id }) else p

/-- The job is gone: ASSIGNED becomes VACANT; ignored in any other state (R92). -/
def jobGone (p : Part) : Part :=
  if p.meter.state = .assigned then setMeterState .vacant (p.setMeter { p.meter with awarded := none }) else p

/-! ### Opening a trip (R86) -/

/-- The ACTIVE bank is empty: the active version is 0 (R84, R125). -/
def bankEmpty (p : Part) : Bool := p.tariff.activeVersion == 0

/-- The number of the open shift (R86; log 29 where none is open). -/
def shiftNumber (p : Part) : Nat := (p.log.shift.map Shift.number).getD p.log.shiftCounter

/-- The starting tariff (R107, R112, R113). -/
def bandNow (p : Part) : Nat := bandTariff (activeImage p) p.clock.state p.zones.area p.clock.day p.clock.tod

/-- The trip that a HIRE opens (R86). -/
def newTrip (jobId : Option JobId) (price : Price) (p : Part) : Trip where
  number := nextNumber 99999999 p.log.tripCounter
  shift := shiftNumber p
  startTod := p.clock.tod
  startDay := p.clock.day
  startZone := p.zones.zone
  imageVersion := p.tariff.activeVersion
  jobId := jobId
  price := price
  extras := []
  powerInterrupted := false
  clockFree := decide (p.clock.state = .free)
  clockUnset := decide (p.clock.state = .unset)
  pulseClamped := false
  distanceSuspect := false
  fare := openFare (activeImage p) (bandNow p) p.zones.area p.meter.k price

/-- The trip is opened and the meter goes to HIRED, with an empty plausibility window (R86, R98). -/
def openTrip (jobId : Option JobId) (price : Price) (p : Part) : Part :=
  setMeterState .hired
    (p.setMeter { p.meter with trip := some (newTrip jobId price p), awarded := none, window := PlausWindow.empty })

/-- The entry of the awarded job, which leaves the offer table at the HIRE (R77). -/
def removeAwarded (p : Part) : Part :=
  match p.meter.awarded with
  | none => p
  | some id => p.setOffers (p.offers.filter (fun o => o.id != id))

/-- The AWARDED entry (R76). -/
def awardedOffer (p : Part) : Option Offer :=
  match p.meter.awarded with
  | none => none
  | some id => findOffer id p.offers

/-- The job id of the AWARDED entry (R77). -/
def awardedJob (p : Part) : Option JobId :=
  match awardedOffer p with
  | none => none
  | some o => o.jobId

/-- The price mode and value of the AWARDED entry (R77). -/
def awardedPrice (p : Part) : Price :=
  match awardedOffer p with
  | none => .unpriced
  | some o => o.price

/-- A HIRE as it is taken (R83, R86). -/
def takeHire (p : Part) : Part :=
  match p.meter.state with
  | .vacant => answer .ok .none (openTrip none .unpriced (cancelOpenOffers p))
  | .assigned => answer .ok .none (openTrip (awardedJob p) (awardedPrice p) (removeAwarded p))
  | .offDuty => answer .refusedState .none p
  | .hired => answer .refusedState .none p
  | .payable => answer .refusedState .none p
  | .suspended => answer .refusedState .none p

/-- An ON_DUTY as it is taken (R84). -/
def takeOnDuty (p : Part) : Part :=
  if p.meter.state = .offDuty then
    if bankEmpty p then answer .noTariff .none p
    else answer .ok .none (setMeterState .vacant (openShift p))
  else answer .refusedState .none p

/-! ### Requests held during a bank swap (R87) -/

/-- A bank swap is in flight (R136). -/
def swapInFlight (p : Part) : Bool := decide (p.tariff.activity = .swapping)

/-- A held request is taken (R87). -/
def takeHeld (p : Part) : Part :=
  let q := p.setMeter { p.meter with held := none }
  match p.meter.held with
  | none => p
  | some .hire => takeHire q
  | some .onDuty => takeOnDuty q

/-- A HIRE or an ON_DUTY at its arrival: held while a swap is in flight, taken otherwise (R87). -/
def holdOrTake (r : HeldRequest) (take : Part → Part) (p : Part) : Part :=
  if swapInFlight p then p.setMeter { p.meter with held := some r } else take p

/-- The bank swap completes, and the meter takes its held request at once (R87, R136). -/
def swapCompletes (p : Part) : Part :=
  if swapInFlight p then takeHeld (p.setTariff (swapRoles p.tariff)) else p

/-- The completion of a swap that finds a request held (R87; log 9). -/
def heldRequestTaken (p : Part) : Part := if p.meter.held.isSome then swapCompletes p else p

/-! ### The other requests -/

/-- An OFF_DUTY (R85). -/
def takeOffDuty (p : Part) : Part :=
  if p.meter.state = .vacant then answer .ok .none (setMeterState .offDuty (cancelOpenOffers (closeShift p)))
  else answer .refusedState .none p

/-- A STOP (R88). -/
def takeStop (p : Part) : Part :=
  match p.meter.state with
  | .hired => answer .ok .none (setMeterState .payable (p.setMeter { p.meter with window := PlausWindow.empty }))
  | .suspended => answer .ok .none (setMeterState .payable (onTrip (fun t => { t with powerInterrupted := true }) p))
  | .offDuty => answer .refusedState .none p
  | .vacant => answer .refusedState .none p
  | .assigned => answer .refusedState .none p
  | .payable => answer .refusedState .none p

/-- A RESUME (R89). -/
def takeResume (p : Part) : Part :=
  if p.meter.state = .suspended then
    let q := onTrip (fun t => { t with powerInterrupted := true }) p
    answer .ok .none (setMeterState .hired (q.setMeter { q.meter with window := PlausWindow.empty }))
  else answer .refusedState .none p

/-- The accounts at the CLOSE: the charged fare formed a last time, CAPPED judged (R119). -/
def closingFare (price : Price) (f : Fare) : Fare :=
  { formCharged price f with
    capped := match price with | .cap v => decide (v < f.metered) | .unpriced => f.capped | .fixed _ => f.capped }

/-- The record that a CLOSE hands to the trip log (R90, R119, R151). -/
def closingRecord (t : Trip) (p : Part) : TripRecord := closedRecord t (closingFare t.price t.fare) p

/-- A CLOSE (R90): the record, the open trip absent, VACANT, the tariff store's evaluation. -/
def takeClose (p : Part) : Part :=
  match p.meter.state with
  | .payable =>
    match p.meter.trip with
    | none => answer .refusedState .none p
    | some t =>
      let p := logClose (closingRecord t p) p
      answer .ok .none (evaluateActivation (setMeterState .vacant (p.setMeter { p.meter with trip := none })))
  | .offDuty => answer .refusedState .none p
  | .vacant => answer .refusedState .none p
  | .assigned => answer .refusedState .none p
  | .hired => answer .refusedState .none p
  | .suspended => answer .refusedState .none p

/-- The extra of a number in an image (R91). -/
def findExtra (img : Image) (n : Nat) : Option ExtraDef := img.extras.find? (fun e => e.number == n)

/-- The count of an extra in a trip (R91). -/
def extraCount (n : Nat) (extras : List (Nat × Nat)) : Nat := ((extras.find? (fun e => e.1 == n)).map Prod.snd).getD 0

/-- One more of an extra: its count rises, or it is appended with count 1 (R91). -/
def addExtra (n : Nat) (extras : List (Nat × Nat)) : List (Nat × Nat) :=
  if extras.any (fun e => e.1 == n) then extras.map (fun e => if e.1 = n then (e.1, e.2 + 1) else e) else extras ++ [(n, 1)]

/-- The trip with one more of an extra, its extras total and charged fare reformed (R91, R117, R118). -/
def tripWithExtra (img : Image) (n : Nat) (t : Trip) : Trip :=
  { t with extras := addExtra n t.extras, fare := formCharged t.price (reformExtras img (addExtra n t.extras) t.fare) }

/-- An EXTRA in HIRED or PAYABLE (R91). -/
def judgeExtra (n : Nat) (t : Trip) (p : Part) : Part :=
  match findExtra (activeImage p) n with
  | none => answer .notFound .none p
  | some e =>
    if extraCount n t.extras = e.maxCount then answer .limit .none p
    else answer .ok .none (notifyMeter (p.setMeter { p.meter with trip := some (tripWithExtra (activeImage p) n t) }))

/-- An EXTRA (R91). -/
def takeExtra (n : Nat) (p : Part) : Part :=
  if p.meter.state = .hired ∨ p.meter.state = .payable then
    match p.meter.trip with
    | none => answer .refusedState .none p
    | some t => judgeExtra n t p
  else answer .refusedState .none p

/-- A JOB_CANCEL (R77, R92). The entry's OFFER_STATE notice stands before the STATUS and the METER notice (log 17). -/
def takeJobCancel (p : Part) : Part :=
  if p.meter.state = .assigned then
    answer .ok .none
      (jobGone (match p.meter.awarded with | some id => closeOffer id .cancelled none p | none => p))
  else answer .refusedState .none p

/-- A SET_CALIBRATION, judged in R100's order; the write begins and the response waits for it (R101). -/
def takeCalibration (k : Nat) (p : Part) : Part :=
  if !p.lines.calEnable then answer .locked .none p
  else if p.meter.state ≠ .offDuty then answer .refusedState .none p
  else if 400 ≤ k ∧ k ≤ 60000 then p.setMeter { p.meter with calWrite := some k }
  else answer .bad .none p

/-- The calibration write completes: K and the event count, the distance residual, OK (R101, R157). -/
def calibrationCompletes (p : Part) : Part :=
  match p.meter.calWrite with
  | none => p
  | some k =>
    let q := p.setMeter { p.meter with k := k, calEvents := satAdd 65535 p.meter.calEvents 1, calWrite := none }
    answer .ok .none (q.setLog { q.log with totals := { q.log.totals with distResidual := 0 } })

/-- A pulse on the distance input (R95). -/
def countPulse (p : Part) : Part := p.setMeter { p.meter with count := satAdd 65535 p.meter.count 1 }

/-! ### Commands -/

/-- ON_DUTY (R84, R87). -/
def execOnDuty (req : Nat) (s : State) : Host.Outcome State Fault Refusal :=
  .next { s with part := takeRequest req 2 (holdOrTake .onDuty takeOnDuty) s.part }

/-- OFF_DUTY (R85). -/
def execOffDuty (req : Nat) (s : State) : Host.Outcome State Fault Refusal :=
  .next { s with part := takeRequest req 3 takeOffDuty s.part }

/-- HIRE (R86, R87). -/
def execHire (req : Nat) (s : State) : Host.Outcome State Fault Refusal :=
  .next { s with part := takeRequest req 4 (holdOrTake .hire takeHire) s.part }

/-- HELD_REQUEST_TAKEN (R87). -/
def execHeldRequestTaken (s : State) : Host.Outcome State Fault Refusal := .next { s with part := heldRequestTaken s.part }

/-- STOP (R88). -/
def execStop (req : Nat) (s : State) : Host.Outcome State Fault Refusal :=
  .next { s with part := takeRequest req 5 takeStop s.part }

/-- RESUME (R89). -/
def execResume (req : Nat) (s : State) : Host.Outcome State Fault Refusal :=
  .next { s with part := takeRequest req 6 takeResume s.part }

/-- CLOSE (R90). -/
def execClose (req : Nat) (s : State) : Host.Outcome State Fault Refusal :=
  .next { s with part := takeRequest req 7 takeClose s.part }

/-- EXTRA (R91). -/
def execExtra (req : Nat) (number : Option Nat) (s : State) : Host.Outcome State Fault Refusal :=
  .next { s with part := takeRequestWith req 8 number takeExtra s.part }

/-- JOB_CANCEL (R92). -/
def execJobCancel (req : Nat) (s : State) : Host.Outcome State Fault Refusal :=
  .next { s with part := takeRequest req 9 takeJobCancel s.part }

/-- SET_CALIBRATION (R100): the line is read at the event. -/
def execSetCalibration (req : Nat) (k : Option Nat) (line : Bool) (s : State) : Host.Outcome State Fault Refusal :=
  .next { s with part := takeRequestWith req 10 k takeCalibration (s.part.setLines { s.part.lines with calEnable := line }) }

/-- CALIBRATION_WRITE_COMPLETE (R101). -/
def execCalibrationWriteComplete (s : State) : Host.Outcome State Fault Refusal :=
  .next { s with part := calibrationCompletes s.part }

/-- DISTANCE_PULSE (R95). -/
def execDistancePulse (s : State) : Host.Outcome State Fault Refusal := .next { s with part := countPulse s.part }

/-- SWAP_COMPLETE (R136). -/
def execSwapComplete (s : State) : Host.Outcome State Fault Refusal := .next { s with part := swapCompletes s.part }

end Sys2Proof.Machine
end

