-- ==== Sys2Proof/Machine/Position.lean ====
section
/-! DEFINITION. The zone resolver (03): fixes, the zone table, resolution, adjacency, debounce, staleness, tariff area. -/

namespace Sys2Proof.Machine

/-! ### The zone table (R50, R51) -/

/-- The adjacency list as it is stored (R50): numbers in 1 to 250 other than the zone's own, each once at its first place,
at most 6. -/
def storedAdjacency (zone : Nat) (ns : List Nat) : List Nat :=
  ((ns.foldl (fun acc n => if acc.contains n then acc else acc ++ [n]) []).filter
    (fun n => decide (1 ≤ n) && decide (n ≤ 250) && n != zone)).take 6

/-- A table entry as it is stored: empty when a field lies outside its range (R50). -/
def storedZone (e : ZoneEntry) : Option ZoneEntry :=
  if e.zone = 0 ∨ 250 < e.zone ∨ e.xMax < e.xMin ∨ e.yMax < e.yMin ∨ 3 < e.layer ∨ 3 < e.area then none
  else some { e with adjacency := storedAdjacency e.zone e.adjacency }

/-- A list of entries written from an index on; places beyond the table are discarded (R51, R172). -/
def writeFrom {α : Type} (first : Nat) : List α → List α → List α
  | [], table => table
  | e :: es, table => writeFrom (first + 1) es (table.set first e)

/-! ### Resolution and adjacency (R52, R53) -/

/-- The rectangle contains the point, all four sides inclusive (R52). -/
def contains (e : ZoneEntry) (x y : Nat) : Bool :=
  decide (e.xMin ≤ x) && decide (x ≤ e.xMax) && decide (e.yMin ≤ y) && decide (y ≤ e.yMax)

/-- The entry of highest layer, the first in table order among equals (R52). -/
def topLayer : List ZoneEntry → Option ZoneEntry
  | [] => none
  | e :: es =>
    match topLayer es with
    | none => some e
    | some b => if e.layer < b.layer then some b else some e

/-- The non-empty entries, in index order. -/
def zoneEntries (t : List (Option ZoneEntry)) : List ZoneEntry := t.filterMap id

/-- The zone a point resolves to: 0 in no entry (R52). -/
def resolve (t : List (Option ZoneEntry)) (x y : Nat) : Nat :=
  match topLayer ((zoneEntries t).filter (fun e => contains e x y)) with
  | none => 0
  | some e => e.zone

/-- Zone b is in the adjacency of zone a (R53). -/
def names (t : List (Option ZoneEntry)) (a b : Nat) : Bool :=
  (zoneEntries t).any (fun e => e.zone == a && e.adjacency.contains b)

/-- Zone a is adjacent to zone b (R53). -/
def adjacent (t : List (Option ZoneEntry)) (a b : Nat) : Bool :=
  a != b && a != 0 && b != 0 && (names t a b || names t b a)

/-! ### The tariff area (R58) -/

/-- The area after an evaluation: that of the current zone's first entry, or held (R58). -/
def areaOf (r : Resolver) : Nat :=
  if r.zone = 0 then r.area
  else match (zoneEntries r.table).find? (fun e => e.zone == r.zone) with | some e => e.area | none => r.area

/-- The tariff area is evaluated (R58). -/
def evaluateArea (p : Part) : Part := p.setZones { p.zones with area := areaOf p.zones }

/-! ### Fixes (R48, R54, R55) -/

/-- Steps 1 and 2 of a usable fix: last fix, age, timer, stale flag with its area evaluation (R48). -/
def recordFix (f : Fix) (p : Part) : Part :=
  let q := p.setZones { p.zones with lastFix := some (f.x, f.y), age := f.age, timer := 0, stale := false }
  if p.zones.stale then evaluateArea q else q

/-- A zone change: the meter is told, which offers a STATUS when VACANT, and the area is evaluated (R55, R102). -/
def changeZone (z : Nat) (p : Part) : Part :=
  let q := p.setZones { p.zones with zone := z }
  evaluateArea (if q.meter.state = .vacant then reportStatus q else q)

/-- The debounce of a resolved zone (R54). -/
def debounce (z : Nat) (p : Part) : Part :=
  if p.zones.cand = some z then (if p.zones.zone = z then p else changeZone z p)
  else p.setZones { p.zones with cand := some z }

/-- A GOOD fix enters the plausibility window while the meter is HIRED (R98). -/
def windowFix (x y : Nat) (p : Part) : Part :=
  if p.meter.state = .hired then
    let w := p.meter.window
    p.setMeter
      { p.meter with
        window := { w with first := (match w.first with | none => some (x, y) | some v => some v), last := some (x, y),
                           fixes := w.fixes + 1 } }
  else p

/-- A usable fix, in the order of R48. -/
def usableFix (f : Fix) (p : Part) : Part :=
  let q := recordFix f p
  let q := debounce (resolve q.zones.table f.x f.y) q
  if f.quality = .good then windowFix f.x f.y q else q

/-- A POSITION request at the resolver (R48). -/
def takeFix (f : Fix) (p : Part) : Part :=
  match f.quality with
  | .none => answer .ok .none p
  | .coarse => answer .ok .none (usableFix f p)
  | .good => answer .ok .none (usableFix f p)
  | .other => answer .bad .none p

/-- The fix of a POSITION, when its coordinates lie in 0 to 65,535 and its age in 0 to 255: another is not of the item's
form, and the port answers it BAD (R191; 03, Position fixes; log 20). -/
def fixInForm (fix : Option Fix) : Option Fix :=
  fix.filter (fun f => decide (f.x ≤ 65535) && decide (f.y ≤ 65535) && decide (f.age ≤ 255))

/-- A POSITION at the port (R48, R191, R192). -/
def takePosition (req : Nat) (fix : Option Fix) (p : Part) : Part := takeRequestWith req 1 (fixInForm fix) takeFix p

/-! ### Meter seconds (R49, R56) -/

/-- The resolver takes a meter second: fix age, staleness timer, and at 60 the stale flag (R49, R56). -/
def resolverSecond (p : Part) : Part :=
  let z := p.zones
  let aged := { z with age := if z.lastFix.isSome then satAdd 255 z.age 1 else z.age }
  if z.timer < 60 then
    if z.timer = 59 then p.setZones { aged with timer := 60, stale := true, cand := none }
    else p.setZones { aged with timer := z.timer + 1 }
  else p.setZones aged

/-! ### Loads (R51) -/

/-- A LOAD (ZONES) at the resolver (R51). -/
def takeZones (first : Nat) (es : List ZoneEntry) (p : Part) : Part :=
  if es.isEmpty ∨ 8 < es.length then p
  else
    let q := p.setZones { p.zones with table := writeFrom first (es.map storedZone) p.zones.table, cand := none }
    if q.zones.stale then q else evaluateArea q

/-! ### Commands -/

/-- POSITION (R48). -/
def execPosition (req : Nat) (fix : Option Fix) (s : State) : Host.Outcome State Fault Refusal :=
  .next { s with part := takePosition req fix s.part }

/-- LOAD_ZONES (R51). -/
def execLoadZones (h : AirHeader) (first : Nat) (entries : List ZoneEntry) (s : State) : Host.Outcome State Fault Refusal :=
  .next { s with part := receiveFrame h (takeZones first entries) s.part }

end Sys2Proof.Machine
end

