-- ==== Sys2Proof/Machine/Messages.lean ====
section
/-! DEFINITION. The message store (10): inbound texts, holding while moving, reading, replies, canned and free text. -/

namespace Sys2Proof.Machine

/-! ### Arrival (R165 to R167) -/

/-- A reply form is one of the four, with a list of 1 to 4 distinct indices 0 to 31 for CANNED (R165). -/
def formOk : ReplyForm → Bool
  | .none => true
  | .ack => true
  | .yesNo => true
  | .canned is => decide (1 ≤ is.length) && decide (is.length ≤ 4) && is.all (fun i => decide (i ≤ 31)) && decide is.Nodup

/-- The message of an id. -/
def findMessage (id : Nat) (ms : List Message) : Option Message := ms.find? (fun m => m.id == id)

/-- The origin of a message from its frame's address kind (R165). -/
def originOf (h : AirHeader) : Origin :=
  match h.kind with
  | .cab => .base
  | .all => .all
  | .group => .group h.addr

/-- READ or REPLIED. -/
def seen (m : Message) : Bool := decide (m.state ≠ .unread)

/-- The store with the first message of a description removed; absent when there is none. -/
def removeFirst (f : Message → Bool) : List Message → Option (List Message)
  | [] => none
  | m :: ms => if f m then some ms else (removeFirst f ms).map (fun r => m :: r)

/-- The store with one message evicted in R166's order; absent when every message is URGENT and UNREAD. -/
def evictMessage (ms : List Message) : Option (List Message) :=
  match removeFirst (fun m => decide (m.priority = .normal) && seen m) ms with
  | some r => some r
  | none =>
    match removeFirst (fun m => decide (m.priority = .urgent) && seen m) ms with
    | some r => some r
    | none => removeFirst (fun m => decide (m.priority = .normal) && !seen m) ms

/-- A new message takes a place, last (R166). -/
def placeMessage (m : Message) (ms : List Message) : Option (List Message) :=
  if ms.length < 24 then some (ms ++ [m]) else (evictMessage ms).map (fun r => r ++ [m])

/-- A new message is filed: shown at once, or held while the cab moves and it is NORMAL (R167). -/
def fileMessage (m : Message) (p : Part) : Part :=
  let m := { m with held := decide (m.priority = .normal) && decide (p.msgs.motion = .moving) }
  match placeMessage m p.msgs.inbox with
  | none => setFlag .inboundDropped p
  | some ms =>
    let q := p.setMsgs { p.msgs with inbox := ms }
    if m.held then q else placeNotice (.message m) q

/-- A well-formed TEXT frame's new message (R165). -/
def newMessage (h : AirHeader) (f : TextFrame) (pr : Priority) (form : ReplyForm) (p : Part) : Message where
  id := f.id
  origin := originOf h
  priority := pr
  form := form
  text := f.text
  arrival := p.clock.tod
  state := .unread
  held := false

/-- A TEXT frame at the store (R165). -/
def takeText (h : AirHeader) (f : TextFrame) (p : Part) : Part :=
  match f.priority, f.form with
  | some pr, some form =>
    if f.id = 0 ∨ f.text.length = 0 ∨ 160 < f.text.length ∨ formOk form = false then p
    else if (findMessage f.id p.msgs.inbox).isSome then p
    else fileMessage (newMessage h f pr form p) p
  | _, _ => p

/-! ### Motion (R168) -/

/-- The notices of the held messages, in arrival order. -/
def showHeld (p : Part) : Part :=
  (p.msgs.inbox.filter (fun m => m.held)).foldl (fun p m => placeNotice (.message { m with held := false }) p)
    (p.setMsgs { p.msgs with inbox := p.msgs.inbox.map (fun m => { m with held := false }) })

/-- A change of motion is handed to the store: it is recorded, and at a change to STOPPED the held messages are released
(R168). -/
def takeMotion (m : Motion) (p : Part) : Part :=
  let q := p.setMsgs { p.msgs with motion := m }
  match m with
  | .moving => q
  | .stopped => showHeld q

/-! ### Reading (R169) -/

/-- The store with one message changed. -/
def changeMessage (id : Nat) (f : Message → Message) (p : Part) : Part :=
  p.setMsgs { p.msgs with inbox := p.msgs.inbox.map (fun m => if m.id = id then f m else m) }

/-- A message as its first read leaves it. -/
def readOnce (m : Message) : Message := { m with state := .read, held := false }

/-- A READ_MESSAGE (R169). -/
def takeRead (id : Nat) (p : Part) : Part :=
  match findMessage id p.msgs.inbox with
  | none => answer .notFound .none p
  | some m =>
    if m.state = .unread then
      let q := changeMessage id readOnce p
      let q := if m.priority = .urgent then offerEntry (.readReceipt id p.clock.tod) (some id) q else q
      answer .ok (.message (readOnce m)) q
    else answer .ok (.message m) p

/-! ### Replying (R170, R171) -/

/-- The answer is one the reply form offers (R170). -/
def offersAnswer : ReplyForm → Answer → Bool
  | .none, _ => false
  | .ack, .ack => true
  | .ack, .yes => false
  | .ack, .no => false
  | .ack, .canned _ => false
  | .yesNo, .ack => false
  | .yesNo, .yes => true
  | .yesNo, .no => true
  | .yesNo, .canned _ => false
  | .canned _, .ack => false
  | .canned _, .yes => false
  | .canned _, .no => false
  | .canned is, .canned i => is.contains i

/-- A REPLY_MESSAGE (R170). -/
def takeReply (a : Nat × Answer) (p : Part) : Part :=
  match findMessage a.1 p.msgs.inbox with
  | none => answer .notFound .none p
  | some m =>
    if m.state = .read ∧ offersAnswer m.form a.2 then
      let body := Body.messageReply a.1 m.form a.2
      let r := admitEntry body (some a.1) (expiryOf body p) (changeMessage a.1 (fun m => { m with state := .replied }) p)
      if r.2 then answer .ok .none r.1
      else answer .queueFull .none (placeNotice (.textResult .reply a.1 .queueFull) r.1)
    else answer .refusedState .none p

/-! ### Canned and free text (R172, R173) -/

/-- A canned entry as it is stored: one longer than 40 characters stores the index as empty (R172). -/
def storedCanned (t : Text) : Text := if 40 < t.length then [] else t

/-- A LOAD (CANNED) at the store (R172). -/
def takeCanned (first : Nat) (es : List Text) (p : Part) : Part :=
  if es.isEmpty ∨ 8 < es.length then p
  else p.setMsgs { p.msgs with canned := writeFrom first (es.map storedCanned) p.msgs.canned }

/-- A request to send that passes: the next outbound id, the TEXT body, the queue's answer (R173). -/
def sendOut (canned : Option Nat) (t : Text) (p : Part) : Part :=
  let id := nextNumber 65535 p.msgs.outId
  let body := Body.text id canned t
  let r := admitEntry body (some id) (expiryOf body p) (p.setMsgs { p.msgs with outId := id })
  if r.2 then answer .ok (.outboundId id) r.1
  else answer .queueFull (.outboundId id) (placeNotice (.textResult .text id .queueFull) r.1)

/-- A SEND_CANNED (R173). -/
def takeSendCanned (i : Nat) (p : Part) : Part :=
  if 31 < i then answer .bad .none p
  else if (p.msgs.canned.getD i []).isEmpty then answer .notFound .none p
  else sendOut (some i) (p.msgs.canned.getD i []) p

/-- A SEND_TEXT (R173). -/
def takeSendText (t : Text) (p : Part) : Part :=
  if t.length = 0 ∨ 100 < t.length then answer .bad .none p
  else if p.msgs.motion = .moving then answer .moving .none p
  else sendOut none t p

/-! ### Commands -/

/-- LOAD_CANNED (R172). -/
def execLoadCanned (h : AirHeader) (first : Nat) (entries : List Text) (s : State) : Host.Outcome State Fault Refusal :=
  .next { s with part := receiveFrame h (takeCanned first entries) s.part }

/-- TEXT (R165). -/
def execText (h : AirHeader) (f : TextFrame) (s : State) : Host.Outcome State Fault Refusal :=
  .next { s with part := receiveFrame h (takeText h f) s.part }

/-- READ_MESSAGE (R169). -/
def execReadMessage (req : Nat) (id : Option Nat) (s : State) : Host.Outcome State Fault Refusal :=
  .next { s with part := takeRequestWith req 13 id takeRead s.part }

/-- REPLY_MESSAGE (R170). -/
def execReplyMessage (req : Nat) (a : Option (Nat × Answer)) (s : State) : Host.Outcome State Fault Refusal :=
  .next { s with part := takeRequestWith req 14 a takeReply s.part }

/-- SEND_CANNED (R173). -/
def execSendCanned (req : Nat) (index : Option Nat) (s : State) : Host.Outcome State Fault Refusal :=
  .next { s with part := takeRequestWith req 15 index takeSendCanned s.part }

/-- SEND_TEXT (R173). -/
def execSendText (req : Nat) (t : Option Text) (s : State) : Host.Outcome State Fault Refusal :=
  .next { s with part := takeRequestWith req 16 t takeSendText s.part }

end Sys2Proof.Machine
end

