-- ==== Sys2Proof/Machine/Seconds.lean ====
section
/-! DEFINITION. The meter second (R142): the time base, then the meter (R95 to R99), the zone resolver and the tariff store;
and the rows that name a moment inside it (log 9). -/

namespace Sys2Proof.Machine

/-! ### Pulses and motion (R95, R97) -/

/-- P_max, the largest pulse count of a second (R95). -/
def maxPulses (k : Nat) : Nat := k * 70 / 1000

/-- The count of a second after clamping (R95). -/
def secondPulses (p : Part) : Nat := min p.meter.count (maxPulses p.meter.k)

/-- The second count is taken: a raw count above P_max sets SENSOR, and PULSE_CLAMPED in an open trip (R95). -/
def takePulses (p : Part) : Part :=
  let q := p.setMeter { p.meter with count := 0 }
  if maxPulses p.meter.k < p.meter.count then setFlag .sensor (onTrip (fun t => { t with pulseClamped := true }) q) else q

/-- The zero run after a second (R97). -/
def nextZeroRun (pulses run : Nat) : Nat := if 0 < pulses then 0 else min 3 (run + 1)

/-- The motion after a second (R97). -/
def nextMotion (pulses run : Nat) (m : Motion) : Motion :=
  if 0 < pulses then .moving else if run = 2 then .stopped else m

/-- The motion indication and the zero run follow the pulses; a change of motion is handed to the message store (R97). -/
def followMotion (pulses : Nat) (p : Part) : Part :=
  let m := nextMotion pulses p.meter.zeroRun p.meter.motion
  let q := p.setMeter { p.meter with zeroRun := nextZeroRun pulses p.meter.zeroRun, motion := m }
  if m = p.meter.motion then q else takeMotion m q

/-! ### The charge (R96, R108) -/

/-- The trip after a charged second (R108 to R118); a selection made while the clock is UNSET sets CLOCK_UNSET (R113). -/
def chargedTrip (pulses : Nat) (t : Trip) (p : Part) : Trip :=
  { t with
    clockUnset := t.clockUnset || decide (p.clock.state = .unset),
    fare := chargeSecond (activeImage p) (bandNow p) p.zones.area p.meter.k pulses t.price t.fare }

/-- In HIRED the second is charged; a changed charged fare sends a METER notice (R94, R96). -/
def charge (pulses : Nat) (p : Part) : Part :=
  if p.meter.state = .hired then
    match p.meter.trip with
    | none => p
    | some t =>
      let u := chargedTrip pulses t p
      let q := p.setMeter { p.meter with trip := some u }
      if u.fare.charged = t.fare.charged then q else notifyMeter q
  else p

/-! ### Plausibility (R98, R99) -/

/-- The pulse distance of a window in metres (R99). -/
def pulseDistance (pulses k : Nat) : Nat := pulses * 1000 / k

/-- The fix distance of two fixes in metres (R99). -/
def fixDistance (a b : Nat × Nat) : Nat :=
  let dx := absDiff a.1 b.1
  let dy := absDiff a.2 b.2
  10 * (max dx dy + min dx dy / 2)

/-- A window of at least two GOOD fixes is suspect when 2 × d_f > 3 × d_p + 400 (R99). -/
def windowSuspect (k : Nat) (w : PlausWindow) : Bool :=
  match w.first, w.last with
  | some a, some b => decide (2 ≤ w.fixes) && decide (3 * pulseDistance w.pulses k + 400 < 2 * fixDistance a b)
  | _, _ => false

/-- The window with a second's pulses (R98). -/
def windowSecond (pulses : Nat) (w : PlausWindow) : PlausWindow :=
  { w with seconds := w.seconds + 1, pulses := w.pulses + pulses }

/-- In HIRED the pulses enter the window, which is evaluated at 60 seconds and starts anew (R98, R99). -/
def watchDistance (pulses : Nat) (p : Part) : Part :=
  if p.meter.state = .hired then
    let w := windowSecond pulses p.meter.window
    if 60 ≤ w.seconds then
      let q := p.setMeter { p.meter with window := PlausWindow.empty }
      if windowSuspect p.meter.k w then setFlag .sensor (onTrip (fun t => { t with distanceSuspect := true }) q) else q
    else p.setMeter { p.meter with window := w }
  else p

/-- The meter's handling of a meter second, in R96's order. -/
def meterHandling (p : Part) : Part :=
  let n := secondPulses p
  totalsSecond n (watchDistance n (charge n (followMotion n (takePulses p))))

/-- A meter second ends (R142): the time base first, then the meter, the resolver and the tariff store (log 17). -/
def meterSecond (p : Part) : Part := storeSecond (resolverSecond (meterHandling (clockSecond p)))

/-! ### Moments of a meter second (log 9) -/

/-- This meter second makes the third second without a pulse (R97). -/
def stopsNow (p : Part) : Bool := decide (secondPulses p = 0) && decide (p.meter.zeroRun = 2)

/-- This meter second releases a held message (R168). -/
def releasesNow (p : Part) : Bool := stopsNow p && decide (p.meter.motion = .moving) && p.msgs.inbox.any (fun m => m.held)

/-- This meter second completes a plausibility window (R99). -/
def evaluatesNow (p : Part) : Bool := decide (p.meter.state = .hired) && decide (p.meter.window.seconds = 59)

/-- This meter second brings the staleness timer to 60 (R56). -/
def turnsStale (p : Part) : Bool := decide (p.zones.timer = 59)

/-- This meter second makes the clock FREE (R142). -/
def clockFrees (p : Part) : Bool := decide (p.clock.state = .synced) && decide (p.clock.silence = 119)

/-- The tariff store as this meter second's evaluation finds it. -/
def storeAtSecond (p : Part) : Part := countMidnight (clockSecond p)

/-- This meter second's evaluation sets the due mark (R134). -/
def dueNow (p : Part) : Bool :=
  match (storeAtSecond p).tariff.activation with
  | none => false
  | some a => !a.due && becomesDue a (storeAtSecond p).clock.state (storeAtSecond p).clock.tod

/-- This meter second's evaluation begins a swap (R135, R136). -/
def swapsNow (p : Part) : Bool := !swapInFlight p && swapInFlight (evaluateActivation (storeAtSecond p))

/-- The meter second, where it makes the moment named, and nothing elsewhere (log 9). -/
def secondWhen (c : Part → Bool) (p : Part) : Part := if c p then meterSecond p else p

/-! ### Commands -/

/-- METER_SECOND (R142). -/
def execMeterSecond (s : State) : Host.Outcome State Fault Refusal := .next { s with part := meterSecond s.part }

/-- MOTION_STOPPED (R97). -/
def execMotionStopped (s : State) : Host.Outcome State Fault Refusal :=
  .next { s with part := secondWhen stopsNow s.part }

/-- HELD_MESSAGES_RELEASE (R168). -/
def execHeldMessagesRelease (s : State) : Host.Outcome State Fault Refusal :=
  .next { s with part := secondWhen releasesNow s.part }

/-- PLAUSIBILITY_EVALUATION (R99). -/
def execPlausibilityEvaluation (s : State) : Host.Outcome State Fault Refusal :=
  .next { s with part := secondWhen evaluatesNow s.part }

/-- STALENESS_TIMEOUT (R56). -/
def execStalenessTimeout (s : State) : Host.Outcome State Fault Refusal :=
  .next { s with part := secondWhen turnsStale s.part }

/-- CLOCK_FREE_TIMEOUT (R142). -/
def execClockFreeTimeout (s : State) : Host.Outcome State Fault Refusal :=
  .next { s with part := secondWhen clockFrees s.part }

/-- ACTIVATION_DUE (R134). -/
def execActivationDue (s : State) : Host.Outcome State Fault Refusal := .next { s with part := secondWhen dueNow s.part }

/-- SWAP_BEGIN (R136). -/
def execSwapBegin (s : State) : Host.Outcome State Fault Refusal := .next { s with part := secondWhen swapsNow s.part }

end Sys2Proof.Machine
end

