-- ==== Sys2Proof/Machine/Offers.lean ====
section
/-! DEFINITION. The offer table's events (04): OFFER, ACCEPT, DECLINE, deadlines, WITHDRAW, AWARD. -/

namespace Sys2Proof.Machine

/-! ### Offers (R62 to R65) -/

/-- A price value lies in 0 to 999,999 (R61). -/
def priceOk : Price → Bool
  | .unpriced => true
  | .fixed v => decide (v ≤ maxAmount)
  | .cap v => decide (v ≤ maxAmount)

/-- The zone list of an OFFER is of its kind's form (R62). -/
def zonesOk (h : AirHeader) (f : OfferFrame) : Bool :=
  match f.kind with
  | .zone => decide (1 ≤ f.zones.length) && decide (f.zones.length ≤ 4) &&
      f.zones.all (fun z => decide (1 ≤ z) && decide (z ≤ 250))
  | .direct => decide (h.kind = .cab)

/-- An OFFER frame is well formed (R62). -/
def offerOk (h : AirHeader) (f : OfferFrame) : Bool :=
  decide (f.id ≠ 0) && zonesOk h f && decide (f.pickup ≤ 250) && priceOk f.price && decide (f.note.length ≤ 40)

/-- The cab stands in a zone of the list, or next to one where that is allowed, on a fresh fix (R64). -/
def zoneMatches (f : OfferFrame) (p : Part) : Bool :=
  !p.zones.stale && p.zones.zone != 0 &&
    (f.zones.contains p.zones.zone || (f.adjacentAllowed && f.zones.any (fun z => adjacent p.zones.table p.zones.zone z)))

/-- A new offer is eligible for presentation (R64). -/
def eligible (f : OfferFrame) (p : Part) : Bool :=
  decide (p.meter.state = .vacant) && decide (p.emg.state = .idle) &&
  decide (f.attrs &&& p.mgmt.identity.attrs = f.attrs) && !cyclePassed p.ctl.cycle f.deadline &&
  (match f.kind with | .zone => zoneMatches f p | .direct => true)

/-- The entry that a new offer makes (R64); the zone list and the adjacent-allowed flag belong to a ZONE offer. -/
def presentedOffer (f : OfferFrame) : Offer where
  id := f.id
  kind := f.kind
  zones := match f.kind with | .zone => f.zones | .direct => []
  adjacentAllowed := f.adjacentAllowed
  pickup := f.pickup
  attrs := f.attrs
  jobClass := some f.jobClass
  price := f.price
  note := f.note
  deadline := f.deadline
  state := .presented
  closeReason := none
  withdrawReason := none
  jobId := none

/-- A repeat may move the entry's deadline later (R63). -/
def repeatOffer (o : Offer) (deadline : Nat) (p : Part) : Part :=
  if cycleLater deadline o.deadline then
    let o' := { o with deadline := deadline }
    let q := p.setOffers (replaceOffer o' p.offers)
    if o.state = .presented then placeNotice (.offerState { offerStateOf o' with newDeadline := some deadline }) q else q
  else p

/-- A new offer that passes is presented, with its notice, or dropped for want of a place (R64, R65). -/
def presentOffer (f : OfferFrame) (p : Part) : Part :=
  match placeOffer (presentedOffer f) p.offers with
  | none => setFlag .inboundDropped p
  | some os => placeNotice (offerNotice (presentedOffer f)) (p.setOffers os)

/-- An OFFER frame at the offer table (R62 to R65). -/
def takeOffer (h : AirHeader) (f : OfferFrame) (p : Part) : Part :=
  if offerOk h f then
    match findOffer f.id p.offers with
    | some o => repeatOffer o f.deadline p
    | none => if eligible f p then presentOffer f p else p
  else p

/-! ### ACCEPT and DECLINE (R67, R68, R70) -/

/-- Another entry is ACCEPTED or BID_SENT (R67). -/
def otherBid (id : Nat) (os : List Offer) : Bool :=
  os.any (fun o => o.id != id && (decide (o.state = .accepted) || decide (o.state = .bidSent)))

/-- The BID of an offer, formed at the ACCEPT (R68). -/
def bidBody (id : Nat) (p : Part) : Body := .bid id p.zones.zone p.zones.stale (reportedAge p)

/-- The BID is offered to the queue, whose answer decides the response (R67, R68). -/
def placeBid (o : Offer) (p : Part) : Part :=
  let r := admitEntry (bidBody o.id p) (some o.id) (some o.deadline) p
  if r.2 then answer .ok .none (moveOffer o.id .accepted false r.1) else answer .queueFull .none r.1

/-- An ACCEPT, in R67's order. -/
def takeAccept (id : Nat) (p : Part) : Part :=
  match findOffer id p.offers with
  | none => answer .gone .none p
  | some o =>
    if o.state = .closed then answer .gone .none p
    else if o.state = .presented ∧ cyclePassed p.ctl.cycle o.deadline = true then
      answer .gone .none (closeOffer id .expired none p)
    else if otherBid id p.offers then answer .busyBid .none p
    else if o.state = .presented then placeBid o p
    else answer .refusedState .none p

/-- A DECLINE (R70). -/
def takeDecline (id : Nat) (p : Part) : Part :=
  match findOffer id p.offers with
  | none => answer .gone .none p
  | some o =>
    match o.state with
    | .presented => answer .ok .none (closeOffer id .declined none p)
    | .accepted => answer .refusedState .none p
    | .bidSent => answer .refusedState .none p
    | .awarded => answer .refusedState .none p
    | .closed => answer .gone .none p

/-! ### Cycle starts (R71, R72) -/

/-- The BID of an offer in the queue: one not given up by a removal (R40; log 32). -/
def bidEntry (id : Nat) (p : Part) : Option Entry :=
  p.queue.entries.find? (fun e => entryNamed .bid (some id) e && decide (e.mark ≠ some .withdrawn))

/-- An ACCEPTED entry whose deadline has passed, by its BID (R71). -/
def expireAccepted (id : Nat) (p : Part) : Part :=
  match bidEntry id p with
  | none => closeOffer id .expired none p
  | some e => if e.st = .sent then p else closeOffer id .expired none (removeBid id p)

/-- One entry at a cycle start for deadlines (R71). -/
def deadlineEntry (o : Offer) (p : Part) : Part :=
  if cyclePassed p.ctl.cycle o.deadline then
    match o.state with
    | .presented => closeOffer o.id .expired none p
    | .accepted => expireAccepted o.id p
    | .bidSent => p
    | .awarded => p
    | .closed => p
  else p

/-- The offer table takes a cycle start for its deadlines, in table order (R71). -/
def deadlineCycleStart (p : Part) : Part := p.offers.foldl (fun p o => deadlineEntry o p) p

/-- One entry at a cycle start for award waits (R72). -/
def awardWaitEntry (o : Offer) (p : Part) : Part :=
  if o.state = .bidSent ∧ cyclePassed p.ctl.cycle (cycleAfter 10 o.deadline) = true then closeOffer o.id .lost none p else p

/-- The offer table takes a cycle start for its award waits, in table order (R72). -/
def awardWaitCycleStart (p : Part) : Part := p.offers.foldl (fun p o => awardWaitEntry o p) p

/-- The deadlines of a signalled cycle start are taken, once (R71; log 10). -/
def takeDeadlines (p : Part) : Part :=
  if p.sig.deadlines then deadlineCycleStart (p.setSig { p.sig with deadlines := false }) else p

/-- The award waits of a signalled cycle start are taken, once (R72; log 10). -/
def takeAwardWaits (p : Part) : Part :=
  if p.sig.awardWaits then awardWaitCycleStart (p.setSig { p.sig with awardWaits := false }) else p

/-! ### WITHDRAW (R73) -/

/-- A WITHDRAW by the state of the entry it names (R73). That of the AWARDED entry places the OFFER_STATE notice before the
meter's STATUS and METER notice (log 17). -/
def withdrawOffer (o : Offer) (r : WithdrawReason) (p : Part) : Part :=
  match o.state with
  | .presented => closeOffer o.id .withdrawn (some r) p
  | .accepted => closeOffer o.id .withdrawn (some r) (removeBid o.id p)
  | .bidSent => closeOffer o.id .lost (some r) p
  | .awarded => jobGone (closeOffer o.id .withdrawn (some r) p)
  | .closed => p

/-- A WITHDRAW frame at the offer table (R73). -/
def takeWithdraw (id : Nat) (reason : Option WithdrawReason) (p : Part) : Part :=
  match reason with
  | none => p
  | some r =>
    match findOffer id p.offers with
    | none => p
    | some o => withdrawOffer o r p

/-! ### AWARD (R74, R75) -/

/-- An AWARD is well formed (R74): its price, when the mode is one of the three and the value in range. R74 names no check
of the pickup zone, and none is made (log 43). -/
def awardPrice (f : AwardFrame) : Option Price :=
  match f.price with
  | none => none
  | some pr => if f.id ≠ 0 ∧ priceOk pr = true ∧ f.note.length ≤ 40 then some pr else none

/-- Step 1 of an award: every other open entry closes (R74). -/
def closeOthers (id : Nat) (p : Part) : Part :=
  (p.offers.filter (fun o => o.id != id && openOffer o)).foldl
    (fun p o => closeWithBid (if o.state = .presented then .cancelled else .lost) o p) p

/-- A forced job's entry, or a refused award's, before its state is set (R74, R75; log 30, 43). -/
def forcedOffer (f : AwardFrame) (pr : Price) (cycle : Nat) : Offer where
  id := f.id
  kind := .direct
  zones := []
  adjacentAllowed := false
  pickup := f.pickup
  attrs := 0
  jobClass := none
  price := pr
  note := f.note
  deadline := cycle
  state := .awarded
  closeReason := none
  withdrawReason := none
  jobId := some f.jobId

/-- An entry that becomes AWARDED (R74; log 43). -/
def awardedEntry (f : AwardFrame) (pr : Price) (o : Offer) : Offer :=
  { o with state := .awarded, closeReason := none, withdrawReason := none, jobId := some f.jobId, pickup := f.pickup,
           price := pr, note := if f.note.isEmpty then o.note else f.note }

/-- The awarded entry's notice, with job id, pickup zone, price and note (R66, R74). -/
def awardNotice (o : Offer) : NoticeBody :=
  .offerState { offerStateOf o with award := some (o.jobId, o.pickup, o.price, o.note) }

/-- Steps 2 and 3 of an award (R74): the entry updated, its own BID removed, or a forced job placed. -/
def makeAwarded (f : AwardFrame) (pr : Price) (p : Part) : Part :=
  match findOffer f.id p.offers with
  | some o =>
    let q := if o.state = .accepted then removeBid o.id p else p
    placeNotice (awardNotice (awardedEntry f pr o)) (q.setOffers (replaceOffer (awardedEntry f pr o) q.offers))
  | none =>
    let o := forcedOffer f pr p.ctl.cycle
    match placeOffer o p.offers with
    | none => p
    | some os => placeNotice (awardNotice o) (p.setOffers os)

/-- An award taken (R74). -/
def awardTaken (f : AwardFrame) (pr : Price) (p : Part) : Part := assignMeter f.id (makeAwarded f pr (closeOthers f.id p))

/-- The entry of a refused award: CLOSED with LOST, with the award's job id (R75). -/
def lostOffer (f : AwardFrame) (o : Offer) : Offer := { closedOffer .lost none o with jobId := some f.jobId }

/-- A refused award records the loss (R75). Its OFFER_STATE notice carries the state and the reason, and none of the award's
items that R66 lists (log 44). -/
def recordLoss (f : AwardFrame) (pr : Price) (p : Part) : Part :=
  match findOffer f.id p.offers with
  | some o => placeNotice (.offerState (offerStateOf (lostOffer f o))) (p.setOffers (replaceOffer (lostOffer f o) p.offers))
  | none =>
    let o := lostOffer f (forcedOffer f pr p.ctl.cycle)
    match placeOffer o p.offers with
    | none => p
    | some os => placeNotice (.offerState (offerStateOf o)) (p.setOffers os)

/-- An award refused: the AWARD DECLINE, then the loss (R75). -/
def awardRefused (f : AwardFrame) (pr : Price) (p : Part) : Part :=
  recordLoss f pr (offerEntry (.awardDecline f.id f.jobId p.meter.state) (some f.id) p)

/-- The award names the entry now AWARDED (R75). -/
def repeatsAward (id : Nat) (p : Part) : Bool := p.offers.any (fun o => o.id == id && decide (o.state = .awarded))

/-- An AWARD frame at the offer table (R74, R75). -/
def takeAward (f : AwardFrame) (p : Part) : Part :=
  match awardPrice f with
  | none => p
  | some pr =>
    if p.meter.state = .vacant then awardTaken f pr p
    else if repeatsAward f.id p then p
    else awardRefused f pr p

/-! ### Commands -/

/-- OFFER (R62 to R65). -/
def execOffer (h : AirHeader) (f : OfferFrame) (s : State) : Host.Outcome State Fault Refusal :=
  .next { s with part := receiveFrame h (takeOffer h f) s.part }

/-- ACCEPT (R67). -/
def execAccept (req : Nat) (id : Option Nat) (s : State) : Host.Outcome State Fault Refusal :=
  .next { s with part := takeRequestWith req 11 id takeAccept s.part }

/-- DECLINE (R70). -/
def execDecline (req : Nat) (id : Option Nat) (s : State) : Host.Outcome State Fault Refusal :=
  .next { s with part := takeRequestWith req 12 id takeDecline s.part }

/-- OFFER_DEADLINE (R71). -/
def execOfferDeadline (s : State) : Host.Outcome State Fault Refusal := .next { s with part := takeDeadlines s.part }

/-- AWARD_WAIT_END (R72). -/
def execAwardWaitEnd (s : State) : Host.Outcome State Fault Refusal := .next { s with part := takeAwardWaits s.part }

/-- WITHDRAW (R73). -/
def execWithdraw (h : AirHeader) (id : Nat) (reason : Option WithdrawReason) (s : State) :
    Host.Outcome State Fault Refusal :=
  .next { s with part := receiveFrame h (takeWithdraw id reason) s.part }

/-- AWARD (R74, R75). -/
def execAward (h : AirHeader) (f : AwardFrame) (s : State) : Host.Outcome State Fault Refusal :=
  .next { s with part := receiveFrame h (takeAward f) s.part }

end Sys2Proof.Machine
end

