-- ==== Sys2Proof/Machine/Emergency.lean ====
section
/-! DEFINITION. The emergency unit (11, R176 to R186): arming, frames, commands of the base and of the driver. -/

namespace Sys2Proof.Machine

/-! ### Frames (R178, R179) -/

/-- The emergency state that a return state names (R176). -/
def returnTo : ReturnState → EmergencyState
  | .idle => .idle
  | .tracking => .tracking
  | .cancelPending => .cancelPending

/-- The state whose frame is offered and whose interval counts: in ARMING the return state (R179; log 34). -/
def frameState (u : EmergencyUnit) : EmergencyState :=
  match u.state with
  | .arming => (u.ret.map returnTo).getD .idle
  | .idle => .idle
  | .alert => .alert
  | .tracking => .tracking
  | .cancelPending => .cancelPending

/-- An emergency is active (R179). -/
def emergencyActive (u : EmergencyUnit) : Bool := decide (frameState u ≠ .idle)

/-- The charged fare so far, 0 while no trip is open (R120, R178). -/
def chargedSoFar (p : Part) : Nat := (p.meter.trip.map (fun t => t.fare.charged)).getD 0

/-- The BEACON body (R178). -/
def beaconBody (p : Part) : BeaconBody where
  addr := p.mgmt.identity.addr
  sequence := p.emg.sequence
  state := frameState p.emg
  meter := p.meter.state
  charged := chargedSoFar p
  tripStart := p.meter.trip.map Trip.startTod
  zone := p.zones.zone
  stale := p.zones.stale
  x := (p.zones.lastFix.map Prod.fst).getD 0
  y := (p.zones.lastFix.map Prod.snd).getD 0
  age := reportedAge p

/-- The CANCEL body (R178). -/
def cancelBody (p : Part) : CancelBody where
  addr := p.mgmt.identity.addr
  sequence := p.emg.sequence
  state := frameState p.emg
  meter := p.meter.state
  zone := p.zones.zone
  stale := p.zones.stale

/-- The frame of the state: a CANCEL in CANCEL_PENDING, a BEACON otherwise (R178). -/
def emergencyBody (p : Part) : Body :=
  if frameState p.emg = .cancelPending then .cancel (cancelBody p) else .beacon (beaconBody p)

/-- A frame is offered, and the next frame cycle becomes absent (R179). -/
def offerFrame (p : Part) : Part := offerEmergency (emergencyBody p) (p.setEmg { p.emg with nextFrame := none })

/-- The next frame cycle has passed (R179). -/
def frameDue (p : Part) : Bool :=
  match p.emg.nextFrame with
  | none => false
  | some d => cyclePassed p.ctl.cycle d

/-! ### The switch (R176, R177) -/

/-- The unit arms, and the hold timer starts (R176). -/
def arm (r : ReturnState) (p : Part) : Part := p.setEmg { p.emg with state := .arming, ret := some r, holdRunning := true }

/-- A press, by the emergency state; the press out of IDLE wakes a parked controller (R25, R176). -/
def press (p : Part) : Part :=
  match p.emg.state with
  | .idle => wake (arm .idle p)
  | .tracking => arm .tracking p
  | .cancelPending => arm .cancelPending p
  | .alert => p
  | .arming => p

/-- The line goes from released to pressed (R176; log 27). -/
def lineDown (p : Part) : Part := if p.lines.switch then p else press (p.setLines { p.lines with switch := true })

/-- A release in ARMING: the timer stops, the state returns, and a frame that is due is offered (R176, R179). -/
def releaseArming (p : Part) : Part :=
  let q := p.setEmg { p.emg with state := frameState p.emg, ret := none, holdRunning := false }
  if emergencyActive q.emg && frameDue q then offerFrame q else q

/-- A release: it acts in ARMING alone (R176). -/
def release (p : Part) : Part := if p.emg.state = .arming then releaseArming p else p

/-- The line goes from pressed to released (R176; log 27). -/
def lineUp (p : Part) : Part := if p.lines.switch then release (p.setLines { p.lines with switch := false }) else p

/-- The unit as step 1 to 3 of the entry to ALERT leave it, before the BEACON (R177). -/
def alertUnit (u : EmergencyUnit) : EmergencyUnit :=
  { u with sequence := (u.sequence + 1) % 256, state := .alert, ret := none, nextFrame := none, holdRunning := false }

/-- The entry to ALERT, in R177's order. -/
def enterAlert (p : Part) : Part := wake (suppressOffers (offerFrame (p.setEmg (alertUnit p.emg))))

/-- The hold timer expires (R177). -/
def holdExpires (p : Part) : Part := if p.emg.state = .arming ∧ p.emg.holdRunning = true then enterAlert p else p

/-! ### Cycle starts (R179) -/

/-- The unit at a cycle start: in ALERT, TRACKING and CANCEL_PENDING a frame that is due is offered (R179). -/
def emergencyCycleStart (p : Part) : Part :=
  if p.emg.state ≠ .arming ∧ emergencyActive p.emg = true ∧ frameDue p = true then offerFrame p else p

/-- A signalled cycle start is taken, once (R179; log 10). -/
def takeFrameDue (p : Part) : Part :=
  if p.sig.emergency then emergencyCycleStart (p.setSig { p.sig with emergency := false }) else p

/-! ### Commands (R181 to R185) -/

/-- A command of the base is addressed CAB and its sequence matches (R181). -/
def commandMatches (h : AirHeader) (sequence : Nat) (p : Part) : Bool :=
  decide (h.kind = .cab) && sequence == p.emg.sequence

/-- EMERGENCY ACK (R182). -/
def takeEmergencyAck (h : AirHeader) (sequence : Nat) (p : Part) : Part :=
  if commandMatches h sequence p = true ∧ p.emg.state = .alert then
    p.setEmg { p.emg with state := .tracking, nextFrame := p.emg.nextFrame.map (fun _ => cycleAfter 15 p.ctl.cycle) }
  else p

/-- The entry to CANCEL_PENDING, with its CANCEL (R183). -/
def cancelAlert (p : Part) : Part := answer .ok .none (offerFrame (p.setEmg { p.emg with state := .cancelPending }))

/-- An EMERGENCY_CANCEL (R183). -/
def takeEmergencyCancel (p : Part) : Part :=
  match p.emg.state with
  | .alert => cancelAlert p
  | .tracking => cancelAlert p
  | .idle => answer .refusedState .none p
  | .arming => answer .refusedState .none p
  | .cancelPending => answer .refusedState .none p

/-- The open-alert flag becomes set: SIGN and ALERT start on the alarm patterns (R184, R187). -/
def lampsOn (p : Part) : Part :=
  let q := followSign (p.setEmg { p.emg with openAlert := true })
  q.setSign { q.sign with alert := startGenerator ⟨5, 5⟩ }

/-- The open-alert flag is cleared: SIGN returns to the meter's pattern and ALERT goes dark (R185, R187). -/
def lampsOff (p : Part) : Part :=
  if p.emg.openAlert then
    let q := followSign (p.setEmg { p.emg with openAlert := false })
    q.setSign { q.sign with alert := darkGenerator }
  else p

/-- OPEN ALERT (R184). -/
def takeOpenAlert (h : AirHeader) (sequence : Nat) (p : Part) : Part :=
  if commandMatches h sequence p = true ∧ emergencyActive p.emg = true ∧ p.emg.openAlert = false then lampsOn p else p

/-- The unit after an EMERGENCY CLEAR of an active emergency: IDLE, or ARMING with return state IDLE (R185). -/
def clearedUnit (u : EmergencyUnit) : EmergencyUnit :=
  { u with
    state := if u.state = .arming then .arming else .idle,
    ret := if u.state = .arming then some .idle else u.ret,
    nextFrame := none }

/-- EMERGENCY CLEAR (R185). -/
def takeEmergencyClear (h : AirHeader) (sequence : Nat) (p : Part) : Part :=
  if commandMatches h sequence p = true ∧ emergencyActive p.emg = true then lampsOff (p.setEmg (clearedUnit p.emg)) else p

/-- SWITCH_PRESS (R176). -/
def execSwitchPress (s : State) : Host.Outcome State Fault Refusal := .next { s with part := lineDown s.part }

/-- SWITCH_RELEASE (R176). -/
def execSwitchRelease (s : State) : Host.Outcome State Fault Refusal := .next { s with part := lineUp s.part }

/-- HOLD_TIMER_EXPIRY (R177). -/
def execHoldTimerExpiry (s : State) : Host.Outcome State Fault Refusal := .next { s with part := holdExpires s.part }

/-- EMERGENCY_FRAME_DUE (R179). -/
def execEmergencyFrameDue (s : State) : Host.Outcome State Fault Refusal := .next { s with part := takeFrameDue s.part }

/-- EMERGENCY_ACK (R182). -/
def execEmergencyAck (h : AirHeader) (sequence : Nat) (s : State) : Host.Outcome State Fault Refusal :=
  .next { s with part := receiveFrame h (takeEmergencyAck h sequence) s.part }

/-- EMERGENCY_CANCEL (R183). -/
def execEmergencyCancel (req : Nat) (s : State) : Host.Outcome State Fault Refusal :=
  .next { s with part := takeRequest req 17 takeEmergencyCancel s.part }

/-- OPEN_ALERT (R184). -/
def execOpenAlert (h : AirHeader) (sequence : Nat) (s : State) : Host.Outcome State Fault Refusal :=
  .next { s with part := receiveFrame h (takeOpenAlert h sequence) s.part }

/-- EMERGENCY_CLEAR (R185). -/
def execEmergencyClear (h : AirHeader) (sequence : Nat) (s : State) : Host.Outcome State Fault Refusal :=
  .next { s with part := receiveFrame h (takeEmergencyClear h sequence) s.part }

end Sys2Proof.Machine
end

