-- ==== Sys2Proof/Machine/Channel.lean ====
section
/-! DEFINITION. The channel controller (01): cycles and markers, the schedule, slots, parking, and the rows that name a
moment inside a marker or a missed marker (log 9). -/

namespace Sys2Proof.Machine

/-! ### Cycle starts (R1; log 10, 11) -/

/-- The queue takes a signalled cycle start, once (R39; log 10). -/
def takeQueueStart (p : Part) : Part :=
  if p.sig.queue then queueCycleStart (p.setSig { p.sig with queue := false }) else p

/-- Cycle starts signalled and not yet taken are taken before the next one (log 10). -/
def takeSignals (p : Part) : Part := takeFrameDue (takeAwardWaits (takeDeadlines (takeQueueStart p)))

/-- The current cycle changes: a cycle start, at which the page hold falls by one and the blocks are signalled (R1). A
cycle number that equals the current one is no change (log 31). The signalled blocks take the cycle start after the event
that made it, and so after the reports of a marker's settlements (log 10, 40). -/
def startCycle (c : Nat) (p : Part) : Part :=
  if p.ctl.cycle = c then p
  else
    let q := takeSignals p
    (q.setCtl { q.ctl with cycle := c, pageHold := q.ctl.pageHold - 1 }).setSig ⟨true, true, true, true⟩

/-- The trip log and totals take the cycle start of an event at its end, when the event made one (log 11). -/
def endCycleStart (changed : Bool) (p : Part) : Part := if changed then logCycleStart p else p

/-- The local counter has reached a time. -/
def reachTime (t : Nat) (p : Part) : Part := p.setClock { p.clock with local_ := max p.clock.local_ t }

/-! ### Hearing a marker (R1, R2, R19, R23) -/

/-- The cycle that comes is a listening time of a parked controller (R23). -/
def listensNext (p : Part) : Bool := cycleAfter 1 p.ctl.cycle % 8 == p.mgmt.identity.addr % 8

/-- The marker that a frame makes heard (R1): well formed, of the own fleet, and in PARKED at a listening time. -/
def heardMarker (frame : List Byte) (p : Part) : Option Marker :=
  match readMarker frame with
  | none => none
  | some m => if fleetPasses m.fleet p && (decide (p.ctl.acq ≠ .parked) || listensNext p) then some m else none

/-- The marker carries the expected cycle (R1). -/
def inSequence (m : Marker) (p : Part) : Bool := m.cycle == cycleAfter 1 p.ctl.cycle

/-- The timing that a heard marker sets, by the L then in force (R1). -/
def setTiming (arrival : Nat) (p : Part) : Part :=
  let l := p.mgmt.params.len
  reachTime arrival
    (p.setCtl { p.ctl with len := l, expected := arrival + l * 1000, timer := arrival + l * 1000 + l * 125 })

/-- A heard marker's cycle and timing (R1). -/
def takeTiming (m : Marker) (arrival : Nat) (p : Part) : Part := setTiming arrival (startCycle m.cycle p)

/-! ### Settling (R5 steps 1 and 2, R14, R15, R17) -/

/-- The pair of an entry is listed (R17). -/
def pairListed (m : Marker) (e : Entry) (p : Part) : Bool := m.acks.contains (p.mgmt.identity.addr, e.tag)

/-- A SENT entry is settled by an in-sequence marker (R17). -/
def settleSent (m : Marker) (t : Nat) (p : Part) : Part × List Report :=
  match findTag t p.queue.entries with
  | none => (p, [])
  | some e =>
    if e.st = .sent then (if pairListed m e p then settleAck t p else settleFail t .noAck p) else (p, [])

/-- A grant that can be taken for a RESERVING entry (R14). -/
def grantFits (m : Marker) (e : Entry) (p : Part) (g : Grant) : Bool :=
  g.addr == p.mgmt.identity.addr && g.tag == e.tag && g.count == slotCount e.size && decide (m.nOpen ≤ g.first) &&
    decide (g.first + g.count ≤ 16)

/-- A RESERVING entry whose wait goes on, or fails at the 8th expected marker time (R15). -/
def waitForGrant (t : Nat) (e : Entry) (p : Part) : Part × List Report :=
  if 7 ≤ e.grantWait then settleFail t .noGrant p
  else (withEntries (mapTag t (fun x => { x with grantWait := x.grantWait + 1 }) p.queue.entries) p, [])

/-- The slots of a taken grant in the schedule (R14). -/
def grantUses (g : Grant) (uid : Nat) : List SlotUse := (List.range g.count).map (fun i => ⟨g.first + i, uid, true⟩)

/-- A grant is taken: the entry is GRANTED and its slots are scheduled (R14, R36). -/
def takeGrant (t : Nat) (e : Entry) (g : Grant) (p : Part) : Part :=
  let q := withEntries (mapTag t (fun x => { x with st := .granted, grantWait := 0 }) p.queue.entries) p
  q.setCtl { q.ctl with schedule := q.ctl.schedule ++ grantUses g e.uid }

/-- A RESERVING entry at a LOCKED marker: the first grant in list order that fits is taken (R2, R14, R15). -/
def settleGrant (m : Marker) (t : Nat) (p : Part) : Part × List Report :=
  match findTag t p.queue.entries with
  | none => (p, [])
  | some e =>
    if e.st = .reserving then
      match m.grants.find? (grantFits m e p) with
      | some g => (takeGrant t e g p, [])
      | none => waitForGrant t e p
    else (p, [])

/-- The tags of the queue, in queue order. -/
def queueTags (p : Part) : List Nat := p.queue.entries.map (fun e => e.tag)

/-- The schedule emptied. -/
def clearSchedule (p : Part) : Part := p.setCtl { p.ctl with schedule := [] }

/-- Steps 1 and 2 of a LOCKED marker (R5): windows, then grant waits. -/
def settleMarker (m : Marker) (p : Part) : Part × List Report :=
  let a := settleAll ((queueTags p).map (settleSent m)) (clearSchedule p)
  let b := settleAll ((queueTags a.1).map (settleGrant m)) a.1
  (b.1, a.2 ++ b.2)

/-! ### Paging and parking (R22, R24) -/

/-- A paging list is taken (R24). -/
def takePages (m : Marker) (p : Part) : Part :=
  if m.pages.contains p.mgmt.identity.addr then wake (p.setCtl { p.ctl with pageHold := 30 }) else p

/-- An entry is in flight: SENT, RESERVING or GRANTED (R22). -/
def inFlight (e : Entry) : Bool := decide (e.st ≠ .waiting)

/-- The parking condition (R22). -/
def parkingHolds (p : Part) : Bool :=
  !p.lines.ignition && decide (300 ≤ p.ctl.offTime) && decide (p.meter.state = .offDuty) && decide (p.emg.state = .idle) &&
  p.queue.entries.all (fun e => isLowClass (entryClass e)) && p.queue.entries.all (fun e => !inFlight e) &&
  p.ctl.pageHold == 0

/-- The controller parks: no schedule is made for the cycle (R22). -/
def park (p : Part) : Part := setAcq .parked (clearSchedule (p.setCtl { p.ctl with missed := 0 }))

/-! ### The schedule (R8 to R10) -/

/-- A WAITING entry contends at a slot that is eligible for it (R8, R9). -/
def contends (nOpen : Nat) (restricted alert : Bool) (slot : Nat) (e : Entry) : Bool :=
  decide (e.st = .waiting) && slotEligible (entryClass e) nOpen restricted alert slot

/-- An entry's counter at one slot (R9). -/
def countDown (nOpen : Nat) (restricted alert : Bool) (slot : Nat) (e : Entry) : Entry :=
  if contends nOpen restricted alert slot e then { e with counter := e.counter - 1 } else e

/-- The entry first in queue order that is ready at a slot (R9, R10). -/
def readyAt (nOpen : Nat) (restricted alert : Bool) (slot : Nat) (es : List Entry) : Option Entry :=
  es.find? (fun e => contends nOpen restricted alert slot e && e.counter == 0)

/-- The open slots in ascending order: the burst scheduled, if any, and the entries with their counters run (R9, R10).
`free` says that a burst may still be scheduled. -/
def runSlots (nOpen : Nat) (restricted alert : Bool) : List Nat → Bool → List Entry → Option SlotUse × List Entry
  | [], _, es => (none, es)
  | slot :: slots, free, es =>
    match free, readyAt nOpen restricted alert slot es with
    | true, some e =>
      (some ⟨slot, e.uid, false⟩,
        (runSlots nOpen restricted alert slots false (es.map (countDown nOpen restricted alert slot))).2)
    | _, _ => runSlots nOpen restricted alert slots free (es.map (countDown nOpen restricted alert slot))

/-- The open-slot path is free: no entry is SENT or RESERVING (R10, R13). -/
def openPathFree (es : List Entry) : Bool := es.all (fun e => decide (e.st ≠ .sent) && decide (e.st ≠ .reserving))

/-- The emergency state is ALERT (R8, R11). -/
def alertOn (p : Part) : Bool := decide (p.emg.state = .alert)

/-- The open-slot part of the schedule, before the granted slots, which lie above it; the counters run (R9, R10). -/
def buildSchedule (p : Part) : Part :=
  let r := runSlots p.ctl.nOpen p.ctl.restricted (alertOn p) (List.range p.ctl.nOpen) (openPathFree p.queue.entries)
    p.queue.entries
  let q := withEntries r.2 p
  q.setCtl { q.ctl with schedule := r.1.toList ++ q.ctl.schedule }

/-- Steps 3 to 6 of a LOCKED marker (R5). -/
def openCycle (m : Marker) (p : Part) : Part :=
  let q := takePages m p
  if parkingHolds q then park q
  else buildSchedule (q.setCtl { q.ctl with nOpen := m.nOpen, restricted := m.restricted })

/-- A LOCKED marker (R5); its reports reach the sources after it (log 12). -/
def lockedMarker (m : Marker) (p : Part) : Part :=
  let r := settleMarker m p
  deliverReports r.2 (openCycle m r.1)

/-! ### Re-acquisition (R7) -/

/-- An entry in flight ends its attempt at a re-acquisition (R7). -/
def endFlight (t : Nat) (p : Part) : Part × List Report :=
  match findTag t p.queue.entries with
  | none => (p, [])
  | some e =>
    match e.st with
    | .sent => settleFail t .noAck p
    | .reserving => settleFail t .noGrant p
    | .granted => settleFail t .noGrant p
    | .waiting => (p, [])

/-- A re-acquisition (R7). -/
def reacquire (p : Part) : Part :=
  let r := settleAll ((queueTags p).map endFlight) (clearSchedule (p.setCtl { p.ctl with inSeq := 1, missed := 0 }))
  deliverReports r.2 (setAcq .acquire r.1)

/-! ### The marker (R3 to R7, R23) -/

/-- A heard marker that keeps ACQUIRE, or makes the third in sequence and locks (R4). -/
def acquireMarker (m : Marker) (seq : Bool) (p : Part) : Part :=
  if seq then
    if 2 ≤ p.ctl.inSeq then lockedMarker m (setAcq .locked (p.setCtl { p.ctl with inSeq := 3 }))
    else p.setCtl { p.ctl with inSeq := p.ctl.inSeq + 1 }
  else p.setCtl { p.ctl with inSeq := 1 }

/-- A heard marker by the acquisition state, after its cycle and timing (R3 to R7, R23). -/
def stateMarker (m : Marker) (seq : Bool) (p : Part) : Part :=
  match p.ctl.acq with
  | .search => setAcq .acquire (p.setCtl { p.ctl with inSeq := 1 })
  | .acquire => acquireMarker m seq p
  | .locked => if seq then lockedMarker m p else reacquire p
  | .holdover => if seq then lockedMarker m (setAcq .locked (p.setCtl { p.ctl with missed := 0 })) else reacquire p
  | .parked => takePages m (p.setCtl { p.ctl with missed := 0 })

/-- A heard marker: cycle and timing, the acquisition state, the trip log's cycle start, and the time base (R1, R21). -/
def takeMarker (m : Marker) (arrival : Nat) (p : Part) : Part :=
  takeMarkerTime m arrival (inSequence m p)
    (endCycleStart (decide (p.ctl.cycle ≠ m.cycle)) (stateMarker m (inSequence m p) (takeTiming m arrival p)))

/-- A marker frame: one that is not heard leaves no trace (R1, R2, R19). -/
def markerFrame (frame : List Byte) (arrival : Nat) (p : Part) : Part :=
  match heardMarker frame p with
  | none => p
  | some m => takeMarker m arrival p

/-! ### The missed marker (R1, R3, R4, R6, R15, R17, R23) -/

/-- The cycle timer expires: the cycle, the expected marker time and the timer advance (R1). -/
def missTiming (p : Part) : Part :=
  let q := startCycle (cycleAfter 1 p.ctl.cycle) p
  reachTime p.ctl.timer
    (q.setCtl
      { q.ctl with
        expected := q.ctl.expected + q.ctl.len * 1000,
        timer := q.ctl.expected + q.ctl.len * 1000 + q.ctl.len * 125,
        schedule := [] })

/-- One entry at a missed-marker event in LOCKED or HOLDOVER (R15, R17). -/
def missEntry (t : Nat) (p : Part) : Part × List Report :=
  match findTag t p.queue.entries with
  | none => (p, [])
  | some e =>
    match e.st with
    | .sent =>
      if e.ackWindow ≤ 1 then settleFail t .noAck p
      else (withEntries (mapTag t (fun x => { x with ackWindow := x.ackWindow - 1 }) p.queue.entries) p, [])
    | .reserving => waitForGrant t e p
    | .granted => (p, [])
    | .waiting => (p, [])

/-- The windows and grant waits at a missed-marker event, the acquisition state changed first (R6, R15, R17). -/
def missWaits (p : Part) : Part :=
  let r := settleAll ((queueTags p).map missEntry) p
  deliverReports r.2 r.1

/-- A missed listening time in PARKED (R23). -/
def parkedMiss (p : Part) : Part :=
  if 7 ≤ p.ctl.missed then setAcq .search (p.setCtl { p.ctl with missed := 0 })
  else p.setCtl { p.ctl with missed := p.ctl.missed + 1 }

/-- A missed-marker event in HOLDOVER: the 8th consecutive one ends in SEARCH (R6). -/
def holdoverMiss (p : Part) : Part :=
  missWaits
    (if 7 ≤ p.ctl.missed then setAcq .search (p.setCtl { p.ctl with missed := 0 })
     else p.setCtl { p.ctl with missed := p.ctl.missed + 1 })

/-- The missed-marker event by the acquisition state; `listening` says that the marker due was at a listening time. -/
def stateMiss (listening : Bool) (p : Part) : Part :=
  match p.ctl.acq with
  | .search => p
  | .acquire => setAcq .search (p.setCtl { p.ctl with inSeq := 0 })
  | .locked => missWaits (setAcq .holdover (p.setCtl { p.ctl with missed := 1 }))
  | .holdover => holdoverMiss p
  | .parked => if listening then parkedMiss p else p

/-- The missed-marker event (R1). -/
def missMarker (p : Part) : Part := endCycleStart true (stateMiss (listensNext p) (missTiming p))

/-! ### Slots (R11 to R13, R16) -/

/-- The long-wait indicator (R12). -/
def longWait (e : Entry) (p : Part) : Bool := cycleLater p.ctl.cycle (cycleAfter 20 e.queuedAt)

/-- A burst of an entry (R12). -/
def burstOf (e : Entry) (slot : Nat) (part : BurstPart) (bytes : List Byte) (p : Part) : Burst where
  slot := slot
  fleet := p.mgmt.identity.fleet
  addr := p.mgmt.identity.addr
  tag := e.tag
  kind := kindOf e.body
  cls := entryClass e
  longWait := longWait e p
  part := part
  bytes := bytes

/-- The DATA bursts of an entry's body, as the frame store holds it, from a first slot on, part i in slot first + i (R12,
R14, R30). -/
def dataBursts (e : Entry) (first : Nat) (p : Part) : List Burst :=
  (List.range (slotCount e.size)).map
    (fun i => burstOf e (first + i) (.data i (slotCount e.size)) (((entryBytes e p).drop (32 * i)).take 32) p)

/-- The reservation request of an entry (R12, R13). -/
def reservationBurst (e : Entry) (slot : Nat) (p : Part) : Burst := burstOf e slot (.reservation (slotCount e.size)) [] p

/-- An entry's release: attempt count, state, windows (R11, R13, R16, R36). -/
def releasedEntry (st : EntryState) (e : Entry) : Entry :=
  { e with st := st, attempts := satAdd 255 e.attempts 1, ackWindow := if st = .sent then 2 else 0, grantWait := 0 }

/-- Bursts are released to the modem and the entry moves on (R11). -/
def releaseBursts (e : Entry) (st : EntryState) (bs : List Burst) (p : Part) : Part :=
  (withEntries (mapTag e.tag (releasedEntry st) p.queue.entries) p).setAir bs

/-- An entry released at its slot: a granted body whole, an open-slot body, or a reservation request (R11, R13, R16). -/
def releaseEntry (u : SlotUse) (e : Entry) (p : Part) : Part :=
  if u.granted then releaseBursts e .sent (dataBursts e u.slot p) p
  else if fitsOneBurst e.size then releaseBursts e .sent (dataBursts e u.slot p) p
  else releaseBursts e .reserving [reservationBurst e u.slot p] p

/-- The release check (R11). -/
def checkRelease (u : SlotUse) (e : Entry) (p : Part) : Part :=
  if e.st ≠ (if u.granted then EntryState.granted else EntryState.waiting) then p
  else if isLowClass (entryClass e) && alertOn p then
    if u.granted then
      let r := settleFail e.tag .noGrant p
      deliverReports r.2 r.1
    else p
  else releaseEntry u e p

/-- A slot of the cycle starts (R11): its scheduled pair leaves the schedule, with the entry's other slots. A command that
names a later slot of a taken grant whose first slot was never commanded is a case R16 leaves open, and releasing all parts
there, part i in that slot + i, is the model's choice (log 46). -/
def slotStarts (slot : Nat) (p : Part) : Part :=
  match p.ctl.schedule.find? (fun u => u.slot == slot) with
  | none => p
  | some u =>
    let q := p.setCtl { p.ctl with schedule := p.ctl.schedule.filter (fun v => v.uid != u.uid) }
    if p.ctl.acq = .locked then
      match q.queue.entries.find? (fun e => e.uid == u.uid) with
      | none => q
      | some e => checkRelease u e q
    else q

/-! ### The ignition line (R22, R25) -/

/-- The ignition line turns on: the ignition-off time is 0, and a parked controller wakes (R22, R25; log 27). -/
def ignitionUp (p : Part) : Part :=
  if p.lines.ignition then p
  else wake ((p.setLines { p.lines with ignition := true }).setCtl { p.ctl with offTime := 0 })

/-- The ignition line turns off (R22). -/
def ignitionDown (p : Part) : Part := p.setLines { p.lines with ignition := false }

/-- A whole second with the ignition off (R22; log 27). -/
def ignitionTick (p : Part) : Part :=
  if p.lines.ignition then p else p.setCtl { p.ctl with offTime := satAdd 300 p.ctl.offTime 1 }

/-! ### Groups (R20) -/

/-- The group table that a list gives: numbers in 1 to 250, each once (R20). -/
def storedGroups (gs : List Nat) : List Nat :=
  (gs.filter (fun g => decide (1 ≤ g) && decide (g ≤ 250))).foldl (fun acc g => if acc.contains g then acc else acc ++ [g]) []

/-- A LOAD (GROUPS) at the controller (R20). -/
def takeGroups (gs : List Nat) (p : Part) : Part :=
  if 8 < gs.length then p else p.setCtl { p.ctl with groups := storedGroups gs }

/-! ### Moments of a marker or a missed marker (log 9) -/

/-- LOCKED or HOLDOVER. -/
def tracking (p : Part) : Bool := decide (p.ctl.acq = .locked) || decide (p.ctl.acq = .holdover)

/-- A RESERVING entry whose wait ends at its next expected marker time without a grant (R15). -/
def lastWait (e : Entry) : Bool := decide (e.st = .reserving) && decide (7 ≤ e.grantWait)

/-- A SENT entry whose window ends at the next missed marker (R17). -/
def lastWindow (e : Entry) : Bool := decide (e.st = .sent) && decide (e.ackWindow ≤ 1)

/-- A SENT emergency entry with a frame in the emergency hold (R32). -/
def holdsBehind (p : Part) (f : Entry → Bool) : Bool :=
  p.queue.hold.isSome && p.queue.entries.any (fun e => isEmergency e && decide (e.st = .sent) && f e)

/-- The part as a missed marker's settlement finds it. -/
def atMiss (p : Part) : Part := missTiming p

/-- The marker that an event hears, and the part as its settlement finds it. -/
def atMarker (frame : List Byte) (arrival : Nat) (p : Part) : Option (Marker × Part) :=
  (heardMarker frame p).map (fun m => (m, takeTiming m arrival p))

/-- The event at which an attempt settles. -/
def settlingEvent (at_ : Settling) (p : Part) : Part :=
  match at_ with
  | .marker frame arrival => markerFrame frame arrival p
  | .missed => missMarker p

/-- The event makes the 8th expected marker time of a RESERVING entry pass without a grant (R15). -/
def grantWaitEnds (at_ : Settling) (p : Part) : Bool :=
  match at_ with
  | .missed => tracking p && (atMiss p).queue.entries.any lastWait
  | .marker frame arrival =>
    match atMarker frame arrival p with
    | none => false
    | some (m, q) => tracking p && inSequence m p &&
        q.queue.entries.any (fun e => lastWait e && !m.grants.any (grantFits m e q))

/-- The event settles a SENT emergency entry behind which a frame is held (R32). -/
def holdResolves (at_ : Settling) (p : Part) : Bool :=
  match at_ with
  | .missed => tracking p && holdsBehind (atMiss p) lastWindow
  | .marker frame arrival =>
    match atMarker frame arrival p with
    | none => false
    | some (_, q) => tracking p && holdsBehind q (fun _ => true)

/-- The marker completes the trim window (R146). -/
def trimCompletes (frame : List Byte) (p : Part) : Bool :=
  match heardMarker frame p with
  | none => false
  | some m => markerTimeOk m && windowFills p m.cycle (inSequence m p) p.mgmt.params.len

/-- This missed marker is the 8th consecutive one in HOLDOVER (R6). -/
def holdoverEnds (p : Part) : Bool := decide (p.ctl.acq = .holdover) && decide (7 ≤ p.ctl.missed)

/-- This missed marker is the 8th consecutive missed listening time (R23). -/
def parkingEnds (p : Part) : Bool := decide (p.ctl.acq = .parked) && listensNext p && decide (7 ≤ p.ctl.missed)

/-- This missed marker ends an acknowledgement window (R17). -/
def ackWindowEnds (p : Part) : Bool := tracking p && (atMiss p).queue.entries.any lastWindow

/-- The missed-marker event, where it makes the moment named, and nothing elsewhere (log 9). -/
def missWhen (c : Part → Bool) (p : Part) : Part := if c p then missMarker p else p

/-! ### Commands -/

/-- MARKER (R1). -/
def execMarker (frame : List Byte) (arrival : Nat) (s : State) : Host.Outcome State Fault Refusal :=
  .next { s with part := markerFrame frame arrival s.part }

/-- MISSED_MARKER_EVENT (R1). -/
def execMissedMarkerEvent (s : State) : Host.Outcome State Fault Refusal := .next { s with part := missMarker s.part }

/-- HOLDOVER_TIMEOUT (R6). -/
def execHoldoverTimeout (s : State) : Host.Outcome State Fault Refusal :=
  .next { s with part := missWhen holdoverEnds s.part }

/-- SLOT_START (R11). -/
def execSlotStart (slot : Nat) (s : State) : Host.Outcome State Fault Refusal :=
  .next { s with part := slotStarts slot s.part }

/-- GRANT_WAIT_EXPIRY (R15). -/
def execGrantWaitExpiry (at_ : Settling) (s : State) : Host.Outcome State Fault Refusal :=
  .next { s with part := if grantWaitEnds at_ s.part then settlingEvent at_ s.part else s.part }

/-- ACK_WINDOW_EXPIRY (R17). -/
def execAckWindowExpiry (s : State) : Host.Outcome State Fault Refusal :=
  .next { s with part := missWhen ackWindowEnds s.part }

/-- PARKED_TIMEOUT (R23). -/
def execParkedTimeout (s : State) : Host.Outcome State Fault Refusal :=
  .next { s with part := missWhen parkingEnds s.part }

/-- DOWNLINK_FRAME_DROPPED (R19, R20, R21): a frame that the receive path does not take leaves no trace. -/
def execDownlinkFrameDropped (_h : AirHeader) (_kind : Nat) (s : State) : Host.Outcome State Fault Refusal := .next s

/-- IGNITION_ON (R25). -/
def execIgnitionOn (s : State) : Host.Outcome State Fault Refusal := .next { s with part := ignitionUp s.part }

/-- IGNITION_OFF (R22). -/
def execIgnitionOff (s : State) : Host.Outcome State Fault Refusal := .next { s with part := ignitionDown s.part }

/-- IGNITION_OFF_TICK (R22). -/
def execIgnitionOffTick (s : State) : Host.Outcome State Fault Refusal := .next { s with part := ignitionTick s.part }

/-- EMERGENCY_HOLD_RESOLVE (R32). -/
def execEmergencyHoldResolve (at_ : Settling) (s : State) : Host.Outcome State Fault Refusal :=
  .next { s with part := if holdResolves at_ s.part then settlingEvent at_ s.part else s.part }

/-- ENTRY_LIFETIME_EXPIRY (R39). -/
def execEntryLifetimeExpiry (s : State) : Host.Outcome State Fault Refusal := .next { s with part := takeQueueStart s.part }

/-- LOAD_GROUPS (R20). -/
def execLoadGroups (h : AirHeader) (groups : List Nat) (s : State) : Host.Outcome State Fault Refusal :=
  .next { s with part := receiveFrame h (takeGroups groups) s.part }

/-- TRIM_EVALUATION (R146). -/
def execTrimEvaluation (frame : List Byte) (arrival : Nat) (s : State) : Host.Outcome State Fault Refusal :=
  .next { s with part := if trimCompletes frame s.part then markerFrame frame arrival s.part else s.part }

end Sys2Proof.Machine
end

