-- ==== Sys2Proof/Machine/CabLink.lean ====
section
/-! DEFINITION. The management unit and the cab link port (12): status and queries, faults, loads, identity. -/

namespace Sys2Proof.Machine

/-! ### What queries report -/

/-- The status contents (R196). -/
def statusReport (p : Part) : StatusReport where
  fleet := p.mgmt.identity.fleet
  addr := p.mgmt.identity.addr
  attrs := p.mgmt.identity.attrs
  acq := p.ctl.acq
  cycle := p.ctl.cycle
  meter := p.meter.state
  zone := p.zones.zone
  stale := p.zones.stale
  age := reportedAge p
  flags := p.mgmt.flags
  summary := flagSummary p.mgmt.flags
  fault := p.queue.fault
  emergency := p.emg.state
  sequence := p.emg.sequence
  openAlert := p.emg.openAlert
  clock := p.clock.state
  tod := p.clock.tod
  day := p.clock.day
  trim := p.clock.trim

/-- The trip part of the answer to QUERY METER (R103). -/
def meterTripReport (t : Trip) : MeterTripReport where
  number := t.number
  shift := t.shift
  startTod := t.startTod
  startDay := t.startDay
  startZone := t.startZone
  imageVersion := t.imageVersion
  jobId := t.jobId
  price := t.price
  extras := t.extras
  powerInterrupted := t.powerInterrupted
  clockFree := t.clockFree
  clockUnset := t.clockUnset
  pulseClamped := t.pulseClamped
  distanceSuspect := t.distanceSuspect
  tariff := t.fare.tariff
  metered := t.fare.metered
  charged := t.fare.charged

/-- The answer to QUERY METER (R103). -/
def meterReport (p : Part) : MeterReport where
  state := p.meter.state
  motion := p.meter.motion
  awarded := shownAward p.meter
  k := p.meter.k
  calEvents := p.meter.calEvents
  trip := p.meter.trip.map meterTripReport

/-- One item of the answer to QUERY OFFERS (R80). -/
def offerItem (o : Offer) : OfferItem where
  id := o.id
  kind := o.kind
  state := o.state
  closeReason := o.closeReason
  withdrawReason := o.withdrawReason
  deadline := o.deadline
  award := if o.state = .awarded then some (o.jobId, o.price) else none

/-- The item as the terminal is shown it: SUPPRESSED reads EXPIRED (R80). -/
def shownItem (i : OfferItem) : OfferItem := { i with closeReason := i.closeReason.map displayedReason }

/-- The page count that QUERY TARIFF reports: absent in EMPTY and SUPERSEDED (R132). -/
def shownCount (t : TariffStore) : Option Nat :=
  match t.staging with
  | .empty => none
  | .superseded => none
  | .clearing => t.pageCount
  | .loading => t.pageCount
  | .staged => t.pageCount
  | .rejected => t.pageCount

/-- The answer to QUERY TARIFF (R132). -/
def tariffReport (t : TariffStore) : TariffReport where
  activeVersion := t.activeVersion
  staging := t.staging
  stagingVersion := if t.staging = .empty then none else t.loadVersion
  pageCount := shownCount t
  pending := t.activation
  swapInFlight := decide (t.activity = .swapping)
  missingCount := t.missing.length
  missingList := t.missing.take 16

/-- How many records of the log are UNDELIVERED. -/
def undeliveredCount (rs : List TripRecord) : Nat := (rs.filter (fun r => decide (r.delivery = .undelivered))).length

/-- The answer to QUERY TOTALS (R163). -/
def totalsReport (l : TripLog) : TotalsReport where
  totals := ⟨l.totals.distance, l.totals.hired, l.totals.hires, l.totals.fares⟩
  shift := l.shift.map (fun s => ⟨s.number, s.startTod, s.startDay, s.sums, s.residual⟩)
  summary := l.summary
  tripCounter := l.tripCounter
  records := l.records.length
  oldest := l.records.head?.map TripRecord.number
  newest := l.records.getLast?.map TripRecord.number
  undelivered := undeliveredCount l.records
  queued := queuedCount l.records

/-- A query's answer as the terminal is given it; QUERY TRIP of an absent record is answered NOT_FOUND (R156). -/
def answerQuery (a : QueryAnswer) (p : Part) : Part :=
  match a with
  | .trip none => answer .notFound .none p
  | .trip (some r) => answer .ok (.answer (.trip (some r))) p
  | .offers is => answer .ok (.answer (.offers (is.map shownItem))) p
  | .status r => answer .ok (.answer (.status r)) p
  | .meter r => answer .ok (.answer (.meter r)) p
  | .tariff r => answer .ok (.answer (.tariff r)) p
  | .totals r => answer .ok (.answer (.totals r)) p

/-- A query's answer as the base is given it: a REPLY entry, dropped when the queue refuses it (R41, R196). -/
def replyQuery (a : QueryAnswer) (p : Part) : Part := offerEntry (.reply a) none p

/-- A QUERY of a subject, from either link (R195, R196). -/
def query (subject : Part → QueryAnswer) (src : Source) (p : Part) : Part :=
  match src with
  | .air h => receiveFrame h (fun q => replyQuery (subject q) q) p
  | .cab req => takeRequest req 20 (fun q => answerQuery (subject q) q) p

/-- The STATUS subject. -/
def statusAnswer (p : Part) : QueryAnswer := .status (statusReport p)

/-- A QUERY STATUS: from the base it offers a STATUS and a REPLY; from the terminal it is READ_STATUS (R196). -/
def queryStatus (src : Source) (p : Part) : Part :=
  match src with
  | .air h => receiveFrame h (fun q => replyQuery (statusAnswer (reportStatus q)) (reportStatus q)) p
  | .cab req => takeRequest req 20 (fun q => answerQuery (statusAnswer q) q) p

/-- The TRIP subject: the record of a trip number, or that there is none; no record has a number out of range (R156). -/
def tripAnswer (n : Nat) (p : Part) : QueryAnswer := .trip (findRecord n p.log.records)

/-- A QUERY TRIP; one that carries no number is BAD on the cab link and ignored on the air link (R191; log 22). -/
def queryTrip (src : Source) (number : Option Nat) (p : Part) : Part :=
  match number with
  | some n => query (tripAnswer n) src p
  | none =>
    match src with
    | .air _ => p
    | .cab req => answerBad req 20 p

/-- A QUERY with an unknown subject: BAD on the cab link, ignored on the air link (R196). -/
def unknownQuery (src : Source) (p : Part) : Part :=
  match src with
  | .air _ => p
  | .cab req => answerBad req 20 p

/-! ### CLEAR FAULTS (R45, R199) -/

/-- The named flags are cleared, and the record is emptied with the record option (R45, R199). -/
def clearNamed (flags : List Flag) (record : Bool) (p : Part) : Part :=
  let q := clearFlags flags p
  if record then q.setQueue { q.queue with fault := none } else q

/-- CLEAR FAULTS at the management unit, answered on the cab link (R199). -/
def takeClearFaults (record : Bool) (flags : List Flag) (p : Part) : Part := answer .ok .none (clearNamed flags record p)

/-- CLEAR FAULTS from either link (R199); one whose set is not drawn from the eight flags is BAD on the cab link and
ignored on the air link (R191; log 22). -/
def faultsCleared (src : Source) (flags : Option (List Flag)) (record : Bool) (p : Part) : Part :=
  match src with
  | .cab req => takeRequestWith req 21 flags (takeClearFaults record) p
  | .air h =>
    match flags with
    | none => p
    | some fs => receiveFrame h (clearNamed fs record) p

/-! ### LOAD (CHANNEL) (R197) -/

/-- An item of the load: present values clamped, absent ones keep the old (R197). -/
def loadItem (lo hi : Nat) (new : Option Nat) (old : Nat) : Nat :=
  match new with
  | none => old
  | some v => clampTo lo hi v

/-- The channel parameter table after a load (R197). -/
def loadedParams (i : ChannelLoad) (c : ChannelParams) : ChannelParams where
  len := loadItem 500 4000 i.len c.len
  limitBid := loadItem 1 15 i.limitBid c.limitBid
  limitDecline := loadItem 1 15 i.limitDecline c.limitDecline
  limitStatus := loadItem 1 15 i.limitStatus c.limitStatus
  limitText := loadItem 1 15 i.limitText c.limitText
  limitTrip := loadItem 1 15 i.limitTrip c.limitTrip
  lifeDecline := loadItem 1 1000 i.lifeDecline c.lifeDecline
  lifeStatus := loadItem 1 1000 i.lifeStatus c.lifeStatus
  lifeText := loadItem 1 1000 i.lifeText c.lifeText
  lifeTrip := loadItem 1 1000 i.lifeTrip c.lifeTrip

/-- LOAD (CHANNEL) at the management unit (R197). -/
def takeChannel (i : ChannelLoad) (p : Part) : Part := p.setMgmt { p.mgmt with params := loadedParams i p.mgmt.params }

/-! ### Identity (R200) -/

/-- A SET IDENTITY passes the receive path: its CRC, whatever its fleet number, and the address table, in every state but
PARKED (R19, R20, R200; log 21). -/
def identityPasses (h : AirHeader) (p : Part) : Bool :=
  h.crcOk && decide (p.ctl.acq ≠ .parked) && addressPasses h.kind h.addr p

/-- A SET IDENTITY is accepted and its write begins, by the rows of R200. -/
def identityAccepted (serial : BitVec 32) (i : Identity) (p : Part) : Bool :=
  decide (serial = p.mgmt.serial) && p.mgmt.idWrite.isNone && decide (1 ≤ i.fleet) && decide (i.fleet ≤ 255) &&
  decide (1 ≤ i.addr) && decide (i.addr ≤ 4094) &&
  (decide (p.meter.state = .offDuty) || decide (p.meter.state = .vacant)) && decide (i ≠ p.mgmt.identity)

/-- SET IDENTITY (R200). -/
def takeIdentity (h : AirHeader) (serial : BitVec 32) (i : Identity) (p : Part) : Part :=
  if identityPasses h p && identityAccepted serial i p then p.setMgmt { p.mgmt with idWrite := some i } else p

/-! ### The outbound list (R193) -/

/-- The first item has been transmitted and leaves the list (R193). -/
def transmitted (p : Part) : Part := p.setPort { p.port with outbound := p.port.outbound.drop 1 }

/-! ### Commands -/

/-- LOAD_CHANNEL (R197). -/
def execLoadChannel (h : AirHeader) (items : ChannelLoad) (s : State) : Host.Outcome State Fault Refusal :=
  .next { s with part := receiveFrame h (takeChannel items) s.part }

/-- UNKNOWN_ITEM_CODE (R191). -/
def execUnknownItemCode (req code : Nat) (s : State) : Host.Outcome State Fault Refusal :=
  .next { s with part := answerBad req code s.part }

/-- AIR_ITEM_ON_CAB_LINK (R195). -/
def execAirItemOnCabLink (req code : Nat) (s : State) : Host.Outcome State Fault Refusal :=
  .next { s with part := answerBad req code s.part }

/-- CAB_ITEM_ON_AIR_LINK (R195): a frame that names a cab-only item is ignored. -/
def execCabItemOnAirLink (_h : AirHeader) (_code : Nat) (s : State) : Host.Outcome State Fault Refusal := .next s

/-- OUTBOUND_TRANSMITTED (R193). -/
def execOutboundTransmitted (s : State) : Host.Outcome State Fault Refusal := .next { s with part := transmitted s.part }

/-- READ_STATUS (R196). -/
def execReadStatus (req : Nat) (s : State) : Host.Outcome State Fault Refusal :=
  .next { s with part := takeRequest req 19 (fun p => answerQuery (statusAnswer p) p) s.part }

/-- QUERY_STATUS (R196). -/
def execQueryStatus (src : Source) (s : State) : Host.Outcome State Fault Refusal :=
  .next { s with part := queryStatus src s.part }

/-- QUERY_METER (R103). -/
def execQueryMeter (src : Source) (s : State) : Host.Outcome State Fault Refusal :=
  .next { s with part := query (fun p => .meter (meterReport p)) src s.part }

/-- QUERY_OFFERS (R80). -/
def execQueryOffers (src : Source) (s : State) : Host.Outcome State Fault Refusal :=
  .next { s with part := query (fun p => .offers (p.offers.map offerItem)) src s.part }

/-- QUERY_TARIFF (R132). -/
def execQueryTariff (src : Source) (s : State) : Host.Outcome State Fault Refusal :=
  .next { s with part := query (fun p => .tariff (tariffReport p.tariff)) src s.part }

/-- QUERY_TOTALS (R163). -/
def execQueryTotals (src : Source) (s : State) : Host.Outcome State Fault Refusal :=
  .next { s with part := query (fun p => .totals (totalsReport p.log)) src s.part }

/-- QUERY_TRIP (R156). -/
def execQueryTrip (src : Source) (number : Option Nat) (s : State) : Host.Outcome State Fault Refusal :=
  .next { s with part := queryTrip src number s.part }

/-- QUERY_UNKNOWN_SUBJECT (R196). -/
def execQueryUnknownSubject (src : Source) (s : State) : Host.Outcome State Fault Refusal :=
  .next { s with part := unknownQuery src s.part }

/-- CLEAR_FAULTS (R199). -/
def execClearFaults (src : Source) (flags : Option (List Flag)) (record : Bool) (s : State) : Host.Outcome State Fault Refusal :=
  .next { s with part := faultsCleared src flags record s.part }

/-- SET_IDENTITY (R200). -/
def execSetIdentity (h : AirHeader) (serial : BitVec 32) (identity : Identity) (s : State) :
    Host.Outcome State Fault Refusal :=
  .next { s with part := takeIdentity h serial identity s.part }

end Sys2Proof.Machine
end

