-- ==== Sys2Proof/Machine/Restart.lean ====
section
/-! DEFINITION. Restarts and start-ups (R26, R47, R60, R82, R105, R141, R149, R164, R175, R189, R190, R201 to R203). -/

namespace Sys2Proof.Machine

/-! ### What the reset tables share -/

/-- QUEUED records become UNDELIVERED (R164). -/
def requeueRecords (rs : List TripRecord) : List TripRecord :=
  rs.map (fun r => if r.delivery = .queued then { r with delivery := .undelivered } else r)

/-- A QUEUED summary becomes PENDING (R164). -/
def requeueSummary (s : Option (ShiftSummary × SummaryState)) : Option (ShiftSummary × SummaryState) :=
  s.map (fun v => (v.1, .pending))

/-- An emergency that the restart leaves active has its frame offered at once (R179, R189). -/
def resumeEmergency (p : Part) : Part := if emergencyActive p.emg then offerFrame p else p

/-! ### Fleet restart (R201) -/

/-- The channel controller at a fleet restart (R26). -/
def fleetController (c : Controller) : Controller :=
  { c with
    acq := .search, inSeq := 0, missed := 0, len := 1000, nOpen := 0, restricted := false, schedule := [], groups := [],
    pageHold := 0 }

/-- The uplink queue emptied (R47). -/
def emptyQueue (q : Queue) : Queue := { Queue.cold with nextUid := q.nextUid }

/-- The meter at a fleet restart (R105). -/
def fleetMeter (m : Meter) : Meter :=
  { m with state := if m.state = .assigned then .vacant else m.state, awarded := none, held := none }

/-- A request that the meter held is answered BUSY (R201). -/
def refuseHeld (p : Part) : Part := if p.meter.held.isSome then answer .busy .none p else p

/-- Every block at a fleet restart, by its reset table, before the frames and notices of the restart. The BUSY response to a
held request stands after the LINK notice and before the METER notice (R201; log 17). -/
def fleetBlocks (p : Part) : Part :=
  let p := setAcq .search p
  let p := refuseHeld p
  let p := p.setCtl (fleetController p.ctl)
  let p := p.setQueue (emptyQueue p.queue)
  let p := p.setZones { Resolver.cold with area := p.zones.area }
  let p := p.setOffers []
  let p := p.setMeter (fleetMeter p.meter)
  let p := p.setTariff (storeAfterRestart p.tariff)
  let p := p.setLog { p.log with records := requeueRecords p.log.records, summary := requeueSummary p.log.summary }
  let p := p.setMsgs { MessageStore.cold with motion := p.msgs.motion }
  let p := p.setEmg { p.emg with nextFrame := none }
  p.setMgmt { p.mgmt with flags := StatusFlags.clear, params := ChannelParams.defaults }

/-- A fleet restart (R201): every block, then STATUS, METER notice and sign, the emergency frame, the evaluation of the
pending activation. -/
def restartFleet (p : Part) : Part := evaluateActivation (resumeEmergency (handOn (fleetBlocks p)))

/-- The identity write completes: the new identity takes effect and a fleet restart follows (R200). -/
def identityCompletes (p : Part) : Part :=
  match p.mgmt.idWrite with
  | none => p
  | some i => restartFleet (p.setMgmt { p.mgmt with identity := i, idWrite := none })

/-! ### Terminal restart (R202) -/

/-- The offer table re-notifies every entry that is not CLOSED (R82). -/
def renotifyOffers (p : Part) : Part :=
  (p.offers.filter (fun o => decide (o.state ≠ .closed))).foldl (fun p o => placeNotice (offerNotice o) p) p

/-- The message store re-notifies every message that is not held (R175). -/
def renotifyMessages (p : Part) : Part :=
  (p.msgs.inbox.filter (fun m => !m.held)).foldl (fun p m => placeNotice (.message m) p) p

/-- The fix marked stale (R60). -/
def markStale (p : Part) : Part := p.setZones { p.zones with cand := none, timer := 60, stale := true }

/-- A block's action in a list ordered by rank. -/
def insertRank (r : Nat) (f : Part → Part) : List (Nat × (Part → Part)) → List (Nat × (Part → Part))
  | [] => [(r, f)]
  | x :: xs => if r < x.1 then (r, f) :: x :: xs else x :: insertRank r f xs

/-- The three blocks that send notices, in the order the free ranks give (R202; log 18). -/
def renotifyOrder (n : Nat) : List (Nat × (Part → Part)) :=
  insertRank (Config.restartRank n 0) renotifyOffers
    (insertRank (Config.restartRank n 1) renotifyMessages (insertRank (Config.restartRank n 2) notifyMeter []))

/-- The restart is handed to the blocks (R202, step 4). -/
def handRestart (p : Part) : Part := (renotifyOrder p.draws).foldl (fun p f => f.2 p) (drawn (markStale p))

/-- The port at a terminal restart (R202, steps 1 and 2). -/
def terminalPort (c : CabPort) : CabPort :=
  { outstanding := c.outstanding.map (fun o => { o with discard := true }), outbound := [], overflow := false }

/-- A LINK notice of the state as it stands (R194). -/
def notifyLink (p : Part) : Part := placeNotice (.link p.ctl.acq p.ctl.cycle) p

/-- TERMINAL_RESTART, in R202's order. -/
def restartTerminal (req : Nat) (p : Part) : Part :=
  handRestart (notifyLink (placeResponse req 22 .ok .none (p.setPort (terminalPort p.port))))

/-! ### Nonvolatile writes that the power loss interrupted (R101, R140, R147, R153, R188, R200; log 6) -/

/-- A write in flight at the power loss: it holds its new value or its old one. -/
def resolveWrite {α : Type} (w : Option α) (f : α → Part → Part) (p : Part) : Part :=
  match w with
  | none => p
  | some v => if Config.writeLanded p.draws then drawn (f v p) else drawn p

/-- K with its event count (R101). -/
def landCalibration (k : Nat) (p : Part) : Part :=
  p.setMeter { p.meter with k := k, calEvents := satAdd 65535 p.meter.calEvents 1 }

/-- The trim (R147). -/
def landTrim (v : Int) (p : Part) : Part := p.setClock { p.clock with trimNv := v }

/-- The role record of a swap (R140). -/
def landSwap (_ : Unit) (p : Part) : Part := p.setTariff (swapRoles p.tariff)

/-- The entry of the sign pattern table (R188). -/
def landSign (w : MeterState × Pattern) (p : Part) : Part :=
  p.setSign { p.sign with table := putSignEntry p.sign.table w.2 w.1 }

/-- The cab identity (R200). -/
def landIdentity (i : Identity) (p : Part) : Part := p.setMgmt { p.mgmt with identity := i }

/-- The log update (R153). -/
def landLog (cs : List LogChange) (p : Part) : Part := p.setLog { p.log with nv := writeChanges cs p.log.nv }

/-- A swap in flight as a write in flight. -/
def swapWrite (p : Part) : Option Unit := if swapInFlight p then some () else none

/-- The writes in flight but for the log update. -/
def resolveWrites (p : Part) : Part :=
  let p := resolveWrite p.meter.calWrite landCalibration p
  let p := resolveWrite p.clock.trimWrite landTrim p
  let p := resolveWrite (swapWrite p) landSwap p
  let p := resolveWrite p.sign.write landSign p
  resolveWrite p.mgmt.idWrite landIdentity p

/-! ### Start-ups (R203) -/

/-- The length of the first meter second (R142, R149). -/
def firstSecond (trim : Int) : Nat := (1000000 + trim).toNat

/-- The time base after a start-up, from its nonvolatile trim (R149; log 1). -/
def startClock (c : TimeBase) (st : ClockState) (tod day silence : Nat) : TimeBase where
  state := st
  tod := tod
  day := day
  silence := silence
  trim := c.trimNv
  trimNv := c.trimNv
  trimWrite := none
  window := none
  local_ := 0
  secondEnd := firstSecond c.trimNv

/-- The tariff store after a start-up: no operation is in flight (R140, R141). -/
def startStore (t : TariffStore) : TariffStore := storeAfterRestart { t with activity := .idle }

/-- The management unit after a start-up: the supply mark holds and the check word agrees from then on (R203; log 26). -/
def startManagement (m : Management) : Management :=
  { m with
    idWrite := none, flags := StatusFlags.clear, params := ChannelParams.defaults, supplyMark := true, checkAgrees := true }

/-- The log after a cold start-up (R164). -/
def coldLog (l : TripLog) : TripLog where
  records := requeueRecords l.nv.records
  tripCounter := l.nv.tripCounter
  shiftCounter := l.nv.shiftCounter
  totals := l.nv.totals
  shift := none
  summary := none
  nv := l.nv
  inFlight := none
  waiting := []

/-- The log after a warm start-up: the update that was in flight is in flight again and the waiting changes wait for it, so
that the nonvolatile contents are written when it completes (R153, R164; log 25). -/
def warmLog (l : TripLog) : TripLog :=
  { l with records := requeueRecords l.records, summary := requeueSummary l.summary }

/-- The meter state after a warm start-up (R104). -/
def warmState : MeterState → MeterState
  | .offDuty => .offDuty
  | .vacant => .vacant
  | .assigned => .vacant
  | .hired => .suspended
  | .payable => .payable
  | .suspended => .suspended

/-- The meter after a start-up (R105). -/
def startMeter (st : MeterState) (trip : Option Trip) (m : Meter) : Meter where
  state := st
  awarded := none
  trip := trip
  count := 0
  motion := .stopped
  zeroRun := 3
  window := PlausWindow.empty
  held := none
  k := m.k
  calEvents := m.calEvents
  calWrite := none

/-- The emergency unit after a warm start-up (R189). -/
def warmEmergency (u : EmergencyUnit) : EmergencyUnit :=
  { u with
    state := frameState u, ret := none, openAlert := u.openAlert && decide (frameState u ≠ .idle), nextFrame := none,
    holdRunning := false }

/-- The volatile blocks at their start-up values, the lines as found, the switch line still to be read (R26, R47, R60, R82,
R175, R203). -/
def startBlocks (ignition : Bool) (p : Part) : Part :=
  { p with
    ctl := Controller.cold, queue := emptyQueue p.queue, zones := Resolver.cold, offers := [],
    msgs := MessageStore.cold, port := CabPort.cold, tariff := startStore p.tariff, mgmt := startManagement p.mgmt,
    sign := { p.sign with write := none }, lines := ⟨ignition, false, p.lines.calEnable⟩, air := [],
    sig := ⟨false, false, false, false⟩ }

/-- Every block after a cold start-up. -/
def coldBlocks (ignition : Bool) (p : Part) : Part :=
  let p := resolveWrites p
  let p := resolveWrite p.log.inFlight landLog p
  let p := startBlocks ignition p
  let p := p.setMeter (startMeter .offDuty none p.meter)
  let p := p.setClock (startClock p.clock .unset 0 0 0)
  let p := p.setLog (coldLog p.log)
  p.setEmg ⟨.idle, none, 0, false, none, false⟩

/-- Every block after a warm start-up. -/
def warmBlocks (ignition : Bool) (p : Part) : Part :=
  let p := startBlocks ignition (resolveWrites p)
  let p := p.setMeter (startMeter (warmState p.meter.state) p.meter.trip p.meter)
  let p := p.setClock (startClock p.clock .free p.clock.tod p.clock.day 120)
  let p := p.setLog (warmLog p.log)
  p.setEmg (warmEmergency p.emg)

/-- The sign driver's generators are started after a start-up (R190). -/
def startSign (p : Part) : Part :=
  p.setSign
    { p.sign with
      sign := startGenerator (wantedPattern p), owner := wantedOwner p,
      alert := if p.emg.openAlert then startGenerator ⟨5, 5⟩ else darkGenerator }

/-- The switch line is read: found pressed, it is a press (R189). -/
def readSwitch (pressed : Bool) (p : Part) : Part := if pressed then lineDown p else p

/-- What a start-up sends and begins once every block has its state: LINK notice, STATUS, METER notice, sign, emergency
frame, the evaluation of the pending activation, the switch (R105, R135, R189, R190, R194, R203; log 17). -/
def startUp (switch : Bool) (p : Part) : Part :=
  readSwitch switch (evaluateActivation (resumeEmergency (notifyMeter (reportStatus (notifyLink (startSign p))))))

/-- The retained domain passes its check (R203). -/
def retainedPasses (p : Part) : Bool := p.mgmt.supplyMark && p.mgmt.checkAgrees

/-- Power returns: the check of the retained domain decides between a warm and a cold start-up (R203). -/
def powerReturns (ignition switch : Bool) (p : Part) : Part :=
  startUp switch (if retainedPasses p then warmBlocks ignition p else coldBlocks ignition p)

/-- The supply mark has not held while power was off (R203; log 26). -/
def supplyLost (p : Part) : Part := p.setMgmt { p.mgmt with supplyMark := false }

/-! ### Commands -/

/-- FLEET_RESTART (R201). -/
def execFleetRestart (h : AirHeader) (s : State) : Host.Outcome State Fault Refusal :=
  .next { s with part := receiveFrame h restartFleet s.part }

/-- IDENTITY_WRITE_COMPLETE (R200). -/
def execIdentityWriteComplete (s : State) : Host.Outcome State Fault Refusal :=
  .next { s with part := identityCompletes s.part }

/-- TERMINAL_RESTART (R202). -/
def execTerminalRestart (req : Nat) (s : State) : Host.Outcome State Fault Refusal :=
  .next { s with part := restartTerminal req s.part }

/-- COLD_START_UP (R203): the check fails. -/
def execColdStartUp (ignition switch : Bool) (s : State) : Host.Outcome State Fault Refusal :=
  .next { s with part := powerReturns ignition switch (supplyLost s.part) }

/-- WARM_START_UP (R203): the domain has been kept, and the check decides. -/
def execWarmStartUp (ignition switch : Bool) (s : State) : Host.Outcome State Fault Refusal :=
  .next { s with part := powerReturns ignition switch s.part }

end Sys2Proof.Machine
end

