-- ==== Sys2Proof/Machine/Envelope.lean ====
section
/-! DEFINITION. Envelopes of the terminal as bytes (R191, R205): the port's check, the item that a code names, and the request
that an envelope spells. -/

namespace Sys2Proof.Machine

/-- The items in the order of their codes, 1 to 22 (12, item codes). -/
def itemList : List Item :=
  [.position, .onDuty, .offDuty, .hire, .stop, .resume, .close, .extra, .jobCancel, .setCalibration, .accept, .decline,
    .readMessage, .replyMessage, .sendCanned, .sendText, .emergencyCancel, .setSignPattern, .readStatus, .query, .clearFaults,
    .terminalRestart]

/-- The item of a code that the terminal may name; absent for an unknown code and for an air-link item (R191, R195). -/
def itemOf (code : Nat) : Option Item := if code = 0 then none else itemList[code - 1]?

/-- A QUERY of the terminal by its subject (R196). -/
def takeQuery (req : Nat) (b : RequestBody) (p : Part) : Part :=
  match b.subject with
  | none => unknownQuery (.cab req) p
  | some .status => queryStatus (.cab req) p
  | some .meter => query (fun q => .meter (meterReport q)) (.cab req) p
  | some .offers => query (fun q => .offers (q.offers.map offerItem)) (.cab req) p
  | some .tariff => query (fun q => .tariff (tariffReport q.tariff)) (.cab req) p
  | some .totals => query (fun q => .totals (totalsReport q.log)) (.cab req) p
  | some .trip => queryTrip (.cab req) b.number p

/-- A request of an item with what its body spells: what the item's own row does (R191,
R192). An item that takes no parameter is taken whatever its body holds (log 45). -/
def takeItem (req : Nat) (b : RequestBody) (p : Part) : Item → Part
  | .position => takePosition req b.fix p
  | .onDuty => takeRequest req 2 (holdOrTake .onDuty takeOnDuty) p
  | .offDuty => takeRequest req 3 takeOffDuty p
  | .hire => takeRequest req 4 (holdOrTake .hire takeHire) p
  | .stop => takeRequest req 5 takeStop p
  | .resume => takeRequest req 6 takeResume p
  | .close => takeRequest req 7 takeClose p
  | .extra => takeRequestWith req 8 b.number takeExtra p
  | .jobCancel => takeRequest req 9 takeJobCancel p
  | .setCalibration => takeRequestWith req 10 b.number takeCalibration p
  | .accept => takeRequestWith req 11 b.number takeAccept p
  | .decline => takeRequestWith req 12 b.number takeDecline p
  | .readMessage => takeRequestWith req 13 b.number takeRead p
  | .replyMessage => takeRequestWith req 14 b.answer takeReply p
  | .sendCanned => takeRequestWith req 15 b.number takeSendCanned p
  | .sendText => takeRequestWith req 16 b.text takeSendText p
  | .emergencyCancel => takeRequest req 17 takeEmergencyCancel p
  | .setSignPattern => takeSignPattern req b.state b.times p
  | .readStatus => takeRequest req 19 (fun q => answerQuery (statusAnswer q) q) p
  | .query => takeQuery req b p
  | .clearFaults => faultsCleared (.cab req) b.flags b.record p
  | .terminalRestart => restartTerminal req p

/-- An envelope at the port: one that fails the check leaves no trace; an item code that the table has not, or of an air-link
item, is answered BAD; any other is the request it spells (R191, R195; log 19). -/
def receiveEnvelope (bytes : List Byte) (p : Part) : Part :=
  match readEnvelope bytes with
  | none => p
  | some (req, code, body) =>
    match itemOf code with
    | none => answerBad req code p
    | some item => takeItem req (Config.readRequest code body) p item

/-- ENVELOPE_DISCARDED (R191): an envelope that fails the port's check leaves no trace; bytes that pass it are the request
that they spell (log 19). -/
def execEnvelopeDiscarded (bytes : List Byte) (s : State) : Host.Outcome State Fault Refusal :=
  .next { s with part := receiveEnvelope bytes s.part }

end Sys2Proof.Machine
end

