-- ==== Sys2Proof/Machine/Dispatch.lean ====
section
/-! DEFINITION. The command dispatch: one arm for each row of the opcode table, each one call of its meaning. -/

namespace Sys2Proof.Machine

def exec (i : Instr) (s : State) : Host.Outcome State Fault Refusal :=
  match i with
  | .marker frame arrival => Sys2Proof.Machine.execMarker frame arrival s
  | .missedMarkerEvent => Sys2Proof.Machine.execMissedMarkerEvent s
  | .holdoverTimeout => Sys2Proof.Machine.execHoldoverTimeout s
  | .slotStart slot => Sys2Proof.Machine.execSlotStart slot s
  | .grantWaitExpiry at_ => Sys2Proof.Machine.execGrantWaitExpiry at_ s
  | .ackWindowExpiry => Sys2Proof.Machine.execAckWindowExpiry s
  | .parkedTimeout => Sys2Proof.Machine.execParkedTimeout s
  | .downlinkFrameDropped h kind => Sys2Proof.Machine.execDownlinkFrameDropped h kind s
  | .ignitionOn => Sys2Proof.Machine.execIgnitionOn s
  | .ignitionOff => Sys2Proof.Machine.execIgnitionOff s
  | .ignitionOffTick => Sys2Proof.Machine.execIgnitionOffTick s
  | .emergencyHoldResolve at_ => Sys2Proof.Machine.execEmergencyHoldResolve at_ s
  | .entryLifetimeExpiry => Sys2Proof.Machine.execEntryLifetimeExpiry s
  | .position req fix => Sys2Proof.Machine.execPosition req fix s
  | .stalenessTimeout => Sys2Proof.Machine.execStalenessTimeout s
  | .loadZones h first entries => Sys2Proof.Machine.execLoadZones h first entries s
  | .loadGroups h groups => Sys2Proof.Machine.execLoadGroups h groups s
  | .loadCanned h first entries => Sys2Proof.Machine.execLoadCanned h first entries s
  | .loadChannel h items => Sys2Proof.Machine.execLoadChannel h items s
  | .offer h f => Sys2Proof.Machine.execOffer h f s
  | .accept req id => Sys2Proof.Machine.execAccept req id s
  | .decline req id => Sys2Proof.Machine.execDecline req id s
  | .offerDeadline => Sys2Proof.Machine.execOfferDeadline s
  | .awardWaitEnd => Sys2Proof.Machine.execAwardWaitEnd s
  | .withdraw h id reason => Sys2Proof.Machine.execWithdraw h id reason s
  | .award h f => Sys2Proof.Machine.execAward h f s
  | .onDuty req => Sys2Proof.Machine.execOnDuty req s
  | .offDuty req => Sys2Proof.Machine.execOffDuty req s
  | .hire req => Sys2Proof.Machine.execHire req s
  | .heldRequestTaken => Sys2Proof.Machine.execHeldRequestTaken s
  | .stop req => Sys2Proof.Machine.execStop req s
  | .resume req => Sys2Proof.Machine.execResume req s
  | .close req => Sys2Proof.Machine.execClose req s
  | .extra req number => Sys2Proof.Machine.execExtra req number s
  | .jobCancel req => Sys2Proof.Machine.execJobCancel req s
  | .setCalibration req k line => Sys2Proof.Machine.execSetCalibration req k line s
  | .calibrationWriteComplete => Sys2Proof.Machine.execCalibrationWriteComplete s
  | .distancePulse => Sys2Proof.Machine.execDistancePulse s
  | .meterSecond => Sys2Proof.Machine.execMeterSecond s
  | .motionStopped => Sys2Proof.Machine.execMotionStopped s
  | .plausibilityEvaluation => Sys2Proof.Machine.execPlausibilityEvaluation s
  | .clockFreeTimeout => Sys2Proof.Machine.execClockFreeTimeout s
  | .trimEvaluation frame arrival => Sys2Proof.Machine.execTrimEvaluation frame arrival s
  | .trimWriteComplete => Sys2Proof.Machine.execTrimWriteComplete s
  | .tariffBegin h version pageCount crc => Sys2Proof.Machine.execTariffBegin h version pageCount crc s
  | .clearComplete => Sys2Proof.Machine.execClearComplete s
  | .tariffPage h version index bytes => Sys2Proof.Machine.execTariffPage h version index bytes s
  | .pageWriteComplete => Sys2Proof.Machine.execPageWriteComplete s
  | .tariffActivate h version mode => Sys2Proof.Machine.execTariffActivate h version mode s
  | .tariffAbandon h => Sys2Proof.Machine.execTariffAbandon h s
  | .activationDue => Sys2Proof.Machine.execActivationDue s
  | .swapBegin => Sys2Proof.Machine.execSwapBegin s
  | .swapComplete => Sys2Proof.Machine.execSwapComplete s
  | .logUpdateBegin => Sys2Proof.Machine.execLogUpdateBegin s
  | .logUpdateComplete => Sys2Proof.Machine.execLogUpdateComplete s
  | .text h f => Sys2Proof.Machine.execText h f s
  | .heldMessagesRelease => Sys2Proof.Machine.execHeldMessagesRelease s
  | .readMessage req id => Sys2Proof.Machine.execReadMessage req id s
  | .replyMessage req answer => Sys2Proof.Machine.execReplyMessage req answer s
  | .sendCanned req index => Sys2Proof.Machine.execSendCanned req index s
  | .sendText req text => Sys2Proof.Machine.execSendText req text s
  | .switchPress => Sys2Proof.Machine.execSwitchPress s
  | .switchRelease => Sys2Proof.Machine.execSwitchRelease s
  | .holdTimerExpiry => Sys2Proof.Machine.execHoldTimerExpiry s
  | .emergencyFrameDue => Sys2Proof.Machine.execEmergencyFrameDue s
  | .emergencyAck h sequence => Sys2Proof.Machine.execEmergencyAck h sequence s
  | .emergencyCancel req => Sys2Proof.Machine.execEmergencyCancel req s
  | .openAlert h sequence => Sys2Proof.Machine.execOpenAlert h sequence s
  | .emergencyClear h sequence => Sys2Proof.Machine.execEmergencyClear h sequence s
  | .patternPhaseEnd lamp => Sys2Proof.Machine.execPatternPhaseEnd lamp s
  | .setSignPattern req state times => Sys2Proof.Machine.execSetSignPattern req state times s
  | .signPatternWriteComplete => Sys2Proof.Machine.execSignPatternWriteComplete s
  | .envelopeDiscarded bytes => Sys2Proof.Machine.execEnvelopeDiscarded bytes s
  | .unknownItemCode req code => Sys2Proof.Machine.execUnknownItemCode req code s
  | .airItemOnCabLink req code => Sys2Proof.Machine.execAirItemOnCabLink req code s
  | .cabItemOnAirLink h code => Sys2Proof.Machine.execCabItemOnAirLink h code s
  | .outboundTransmitted => Sys2Proof.Machine.execOutboundTransmitted s
  | .readStatus req => Sys2Proof.Machine.execReadStatus req s
  | .queryStatus src => Sys2Proof.Machine.execQueryStatus src s
  | .queryMeter src => Sys2Proof.Machine.execQueryMeter src s
  | .queryOffers src => Sys2Proof.Machine.execQueryOffers src s
  | .queryTariff src => Sys2Proof.Machine.execQueryTariff src s
  | .queryTotals src => Sys2Proof.Machine.execQueryTotals src s
  | .queryTrip src number => Sys2Proof.Machine.execQueryTrip src number s
  | .clearFaults src flags record => Sys2Proof.Machine.execClearFaults src flags record s
  | .setIdentity h serial identity => Sys2Proof.Machine.execSetIdentity h serial identity s
  | .identityWriteComplete => Sys2Proof.Machine.execIdentityWriteComplete s
  | .fleetRestart h => Sys2Proof.Machine.execFleetRestart h s
  | .terminalRestart req => Sys2Proof.Machine.execTerminalRestart req s
  | .coldStartUp ignition switch => Sys2Proof.Machine.execColdStartUp ignition switch s
  | .warmStartUp ignition switch => Sys2Proof.Machine.execWarmStartUp ignition switch s
  | .queryUnknownSubject src => Sys2Proof.Machine.execQueryUnknownSubject src s

end Sys2Proof.Machine
end

