-- ==== Sys2Proof/WellFormed.lean ====
section
/-! DEFINITION. Well-formed commands: every operand lies in the range of the field that carries it. The meanings do not
rest on this: a command that is not well formed has the effect its operands give it by the same rules. -/

namespace Sys2Proof

/-- A downlink header's fields fit R205's layout and name an address its kind has (00, Addresses and numbers). -/
def AirHeader.wf (h : AirHeader) : Bool :=
  decide (h.fleet ≤ 255) &&
  match h.kind with
  | .all => true
  | .cab => decide (h.addr ≤ 4095)
  | .group => decide (1 ≤ h.addr) && decide (h.addr ≤ 250)

/-- A request number is 0 to 255 (12, state table). -/
def reqWf (req : Nat) : Bool := decide (req ≤ 255)

/-- An offer, message or other 16-bit id as a frame carries it. -/
def idWf (id : Nat) : Bool := decide (id ≤ 65535)

/-- A source's header or request number fits. -/
def Source.wf : Source → Bool
  | .air h => h.wf
  | .cab req => reqWf req

/-- A fix's coordinates and age fit (R48). -/
def Fix.wf (f : Fix) : Bool := decide (f.x ≤ 65535) && decide (f.y ≤ 65535) && decide (f.age ≤ 255)

/-- A marker's contents fit R205's layout and R2's limits. -/
def Marker.wf (m : Marker) : Bool :=
  decide (m.fleet ≤ 255) && decide (m.cycle < 4096) && decide (m.tod < 131072) && decide (m.day < 4) &&
  decide (m.nOpen ≤ 15) && decide (m.acks.length ≤ 24) && decide (m.grants.length ≤ 8) && decide (m.pages.length ≤ 16) &&
  m.acks.all (fun a => decide (a.1 < 4096) && decide (a.2 < 16)) &&
  m.grants.all (fun g => decide (g.addr < 4096) && decide (g.tag < 16) && decide (1 ≤ g.count) && decide (g.count ≤ 4) &&
    decide (g.first + g.count ≤ 16)) &&
  m.pages.all (fun a => decide (a < 4096))

/-- Every operand of a command lies in the range of the field that carries it. -/
def Instr.wf : Instr → Bool
  | .marker _ _ => true
  | .missedMarkerEvent => true
  | .holdoverTimeout => true
  | .slotStart slot => decide (slot ≤ 15)
  | .grantWaitExpiry _ => true
  | .ackWindowExpiry => true
  | .parkedTimeout => true
  | .downlinkFrameDropped h kind => h.wf && decide (kind ≤ 63)
  | .ignitionOn => true
  | .ignitionOff => true
  | .ignitionOffTick => true
  | .emergencyHoldResolve _ => true
  | .entryLifetimeExpiry => true
  | .position req fix => reqWf req && (match fix with | some f => f.wf | none => true)
  | .stalenessTimeout => true
  | .loadZones h first _ => h.wf && decide (first ≤ 63)
  | .loadGroups h _ => h.wf
  | .loadCanned h first _ => h.wf && decide (first ≤ 31)
  | .loadChannel h _ => h.wf
  | .offer h f => h.wf && idWf f.id && decide (f.deadline < 4096)
  | .accept req id => reqWf req && (match id with | some n => idWf n | none => true)
  | .decline req id => reqWf req && (match id with | some n => idWf n | none => true)
  | .offerDeadline => true
  | .awardWaitEnd => true
  | .withdraw h id _ => h.wf && idWf id
  | .award h f => h.wf && idWf f.id
  | .onDuty req => reqWf req
  | .offDuty req => reqWf req
  | .hire req => reqWf req
  | .heldRequestTaken => true
  | .stop req => reqWf req
  | .resume req => reqWf req
  | .close req => reqWf req
  | .extra req _ => reqWf req
  | .jobCancel req => reqWf req
  | .setCalibration req _ _ => reqWf req
  | .calibrationWriteComplete => true
  | .distancePulse => true
  | .meterSecond => true
  | .motionStopped => true
  | .plausibilityEvaluation => true
  | .clockFreeTimeout => true
  | .trimEvaluation _ _ => true
  | .trimWriteComplete => true
  | .tariffBegin h _ _ _ => h.wf
  | .clearComplete => true
  | .tariffPage h _ _ bytes => h.wf && decide (bytes.length = 64)
  | .pageWriteComplete => true
  | .tariffActivate h _ _ => h.wf
  | .tariffAbandon h => h.wf
  | .activationDue => true
  | .swapBegin => true
  | .swapComplete => true
  | .logUpdateBegin => true
  | .logUpdateComplete => true
  | .text h f => h.wf && idWf f.id
  | .heldMessagesRelease => true
  | .readMessage req id => reqWf req && (match id with | some n => idWf n | none => true)
  | .replyMessage req a => reqWf req && (match a with | some p => idWf p.1 | none => true)
  | .sendCanned req _ => reqWf req
  | .sendText req _ => reqWf req
  | .switchPress => true
  | .switchRelease => true
  | .holdTimerExpiry => true
  | .emergencyFrameDue => true
  | .emergencyAck h sequence => h.wf && decide (sequence ≤ 255)
  | .emergencyCancel req => reqWf req
  | .openAlert h sequence => h.wf && decide (sequence ≤ 255)
  | .emergencyClear h sequence => h.wf && decide (sequence ≤ 255)
  | .patternPhaseEnd _ => true
  | .setSignPattern req _ times => reqWf req && (match times with | some t => decide (t.1 ≤ 255) && decide (t.2 ≤ 255) | none => true)
  | .signPatternWriteComplete => true
  | .envelopeDiscarded _ => true
  | .unknownItemCode req code => reqWf req && decide (code ≤ 255)
  | .airItemOnCabLink req code => reqWf req && decide (32 ≤ code) && decide (code ≤ 41)
  | .cabItemOnAirLink h code => h.wf && decide (code ≤ 63)
  | .outboundTransmitted => true
  | .readStatus req => reqWf req
  | .queryStatus src => src.wf
  | .queryMeter src => src.wf
  | .queryOffers src => src.wf
  | .queryTariff src => src.wf
  | .queryTotals src => src.wf
  | .queryTrip src _ => src.wf
  | .clearFaults src _ _ => src.wf
  | .setIdentity h _ _ => h.wf
  | .identityWriteComplete => true
  | .fleetRestart h => h.wf
  | .terminalRestart req => reqWf req
  | .coldStartUp _ _ => true
  | .warmStartUp _ _ => true
  | .queryUnknownSubject src => src.wf

end Sys2Proof
end

