-- ==== Sys2Proof/Safety.lean ====
section
/-! DEFINITION. What claims are stated in: which blocks an event changes, which request a command carries, what the terminal
and the queue are given, and the properties that every step keeps. -/

namespace Sys2Proof.Machine

/-! ### Frames -/

/-- The parts of the state, by name: the twelve blocks' states, the cab link port, the lines, the released bursts, the
cycle-start signals and the count of free values read. -/
inductive Block
  | ctl | queue | zones | offers | meter | tariff | clock | log | msgs | emg | sign | mgmt | port | lines | air | sig | draws
deriving DecidableEq, Repr

/-- One part of the state is the same in two states. -/
def Part.same (p q : Part) : Block → Prop
  | .ctl => q.ctl = p.ctl
  | .queue => q.queue = p.queue
  | .zones => q.zones = p.zones
  | .offers => q.offers = p.offers
  | .meter => q.meter = p.meter
  | .tariff => q.tariff = p.tariff
  | .clock => q.clock = p.clock
  | .log => q.log = p.log
  | .msgs => q.msgs = p.msgs
  | .emg => q.emg = p.emg
  | .sign => q.sign = p.sign
  | .mgmt => q.mgmt = p.mgmt
  | .port => q.port = p.port
  | .lines => q.lines = p.lines
  | .air => q.air = p.air
  | .sig => q.sig = p.sig
  | .draws => q.draws = p.draws

/-- From one state to another nothing changes outside the parts named. -/
def Part.changesOnly (bs : List Block) (p q : Part) : Prop := ∀ b, b ∉ bs → p.same q b

/-! ### Requests -/

/-- The number and item code of a request that the cab link port judges by R191 and R192, its parameters in form; absent
for every other command (12, item codes). -/
def requestOf : Instr → Option (Nat × Nat)
  | .position req fix => (fixInForm fix).map (fun _ => (req, 1))
  | .onDuty req => some (req, 2)
  | .offDuty req => some (req, 3)
  | .hire req => some (req, 4)
  | .stop req => some (req, 5)
  | .resume req => some (req, 6)
  | .close req => some (req, 7)
  | .extra req (some _) => some (req, 8)
  | .jobCancel req => some (req, 9)
  | .setCalibration req (some _) _ => some (req, 10)
  | .accept req (some _) => some (req, 11)
  | .decline req (some _) => some (req, 12)
  | .readMessage req (some _) => some (req, 13)
  | .replyMessage req (some _) => some (req, 14)
  | .sendCanned req (some _) => some (req, 15)
  | .sendText req (some _) => some (req, 16)
  | .emergencyCancel req => some (req, 17)
  | .setSignPattern req _ times => (signTimes times).map (fun _ => (req, 18))
  | .readStatus req => some (req, 19)
  | .queryStatus (.cab req) => some (req, 20)
  | .queryMeter (.cab req) => some (req, 20)
  | .queryOffers (.cab req) => some (req, 20)
  | .queryTariff (.cab req) => some (req, 20)
  | .queryTotals (.cab req) => some (req, 20)
  | .queryTrip (.cab req) (some _) => some (req, 20)
  | .clearFaults (.cab req) (some _) _ => some (req, 21)
  | _ => none

/-- The number and item code of a request that R191, R195 or R196 answers BAD without passing it on. -/
def badRequestOf : Instr → Option (Nat × Nat)
  | .position req fix => if (fixInForm fix).isNone then some (req, 1) else none
  | .extra req none => some (req, 8)
  | .setCalibration req none _ => some (req, 10)
  | .accept req none => some (req, 11)
  | .decline req none => some (req, 12)
  | .readMessage req none => some (req, 13)
  | .replyMessage req none => some (req, 14)
  | .sendCanned req none => some (req, 15)
  | .sendText req none => some (req, 16)
  | .setSignPattern req _ times => if (signTimes times).isNone then some (req, 18) else none
  | .unknownItemCode req code => some (req, code)
  | .airItemOnCabLink req code => some (req, code)
  | .queryTrip (.cab req) none => some (req, 20)
  | .queryUnknownSubject (.cab req) => some (req, 20)
  | .clearFaults (.cab req) none _ => some (req, 21)
  | _ => none

/-- The row of a terminal's QUERY (R196). -/
def queryRow (req : Nat) (number : Option Nat) : Option Subject → Instr
  | none => .queryUnknownSubject (.cab req)
  | some .status => .queryStatus (.cab req)
  | some .meter => .queryMeter (.cab req)
  | some .offers => .queryOffers (.cab req)
  | some .tariff => .queryTariff (.cab req)
  | some .totals => .queryTotals (.cab req)
  | some .trip => .queryTrip (.cab req) number

/-- The row of the table that a request of an item is, with what its body spells and the calibration-enable line (12, item
codes). -/
def requestRow (req : Nat) (b : RequestBody) (line : Bool) : Item → Instr
  | .position => .position req b.fix
  | .onDuty => .onDuty req
  | .offDuty => .offDuty req
  | .hire => .hire req
  | .stop => .stop req
  | .resume => .resume req
  | .close => .close req
  | .extra => .extra req b.number
  | .jobCancel => .jobCancel req
  | .setCalibration => .setCalibration req b.number line
  | .accept => .accept req b.number
  | .decline => .decline req b.number
  | .readMessage => .readMessage req b.number
  | .replyMessage => .replyMessage req b.answer
  | .sendCanned => .sendCanned req b.number
  | .sendText => .sendText req b.text
  | .emergencyCancel => .emergencyCancel req
  | .setSignPattern => .setSignPattern req b.state b.times
  | .readStatus => .readStatus req
  | .query => queryRow req b.number b.subject
  | .clearFaults => .clearFaults (.cab req) b.flags b.record
  | .terminalRestart => .terminalRestart req

/-- No request is outstanding, and the outbound list has room for a response: the terminal's request is taken and its
response is placed (R192, R193). -/
def portFree (p : Part) : Bool :=
  p.port.outstanding.isNone && decide ((p.port.outbound.filter isResponse).length < 4)

/-- The responses of the outbound list, in order. -/
def responses (p : Part) : List Outbound := p.port.outbound.filter isResponse

/-- The notices of the outbound list, in order. -/
def notices (p : Part) : List Outbound := p.port.outbound.filter (fun o => !isResponse o)

/-- The bodies of the notices of the outbound list, in order. -/
def noticeBodies (p : Part) : List NoticeBody :=
  p.port.outbound.filterMap (fun o => match o with | .notice b _ => some b | .response _ _ _ _ => none)

/-- The LINK notices of the outbound list, in order. -/
def linkNotices (p : Part) : List NoticeBody :=
  (noticeBodies p).filter (fun b => match b with | .link _ _ => true | _ => false)

/-- A request has been answered: the response is the last one of the outbound list, and no request is outstanding (R192,
R193). -/
def answered (req item : Nat) (code : RespCode) (body : RespBody) (p q : Part) : Prop :=
  responses q = responses p ++ [.response req item code body] ∧ q.port.outstanding = none

/-- The responses of the outbound list and the outstanding request are as before: nothing was answered. -/
def answersKept (p q : Part) : Prop := responses q = responses p ∧ q.port.outstanding = p.port.outstanding

/-- A flag's value in a state. -/
def flagOf (p : Part) (f : Flag) : Bool := flagGet p.mgmt.flags f

/-! ### Frames from the base -/

/-- The header of a command that comes as a frame through the receive path (R19, R20); absent for every other command. A
SET IDENTITY has a check of its own (R200), and a marker is read from its bytes. -/
def frameHeader : Instr → Option AirHeader
  | .loadZones h _ _ => some h
  | .loadGroups h _ => some h
  | .loadCanned h _ _ => some h
  | .loadChannel h _ => some h
  | .offer h _ => some h
  | .withdraw h _ _ => some h
  | .award h _ => some h
  | .tariffBegin h _ _ _ => some h
  | .tariffPage h _ _ _ => some h
  | .tariffActivate h _ _ => some h
  | .tariffAbandon h => some h
  | .text h _ => some h
  | .emergencyAck h _ => some h
  | .openAlert h _ => some h
  | .emergencyClear h _ => some h
  | .queryStatus (.air h) => some h
  | .queryMeter (.air h) => some h
  | .queryOffers (.air h) => some h
  | .queryTariff (.air h) => some h
  | .queryTotals (.air h) => some h
  | .queryTrip (.air h) _ => some h
  | .clearFaults (.air h) _ _ => some h
  | .fleetRestart h => some h
  | _ => none

/-- The command is a frame from the base, in any of its forms: one of `frameHeader`, a marker under any of its rows, a SET
IDENTITY, a dropped frame, a cab-only item or an unknown subject on the air link. -/
def fromBase : Instr → Bool
  | .marker _ _ => true
  | .trimEvaluation _ _ => true
  | .grantWaitExpiry (.marker _ _) => true
  | .emergencyHoldResolve (.marker _ _) => true
  | .setIdentity _ _ _ => true
  | .downlinkFrameDropped _ _ => true
  | .cabItemOnAirLink _ _ => true
  | .queryUnknownSubject (.air _) => true
  | c => (frameHeader c).isSome

/-! ### Meter requests -/

/-- The cells of R83's table that read RS, but for SET_CALIBRATION, which R100 judges by the line first. -/
def refusedIn : Instr → MeterState → Bool
  | .onDuty _, st => decide (st ≠ .offDuty)
  | .offDuty _, st => decide (st ≠ .vacant)
  | .hire _, st => decide (st ≠ .vacant) && decide (st ≠ .assigned)
  | .stop _, st => decide (st ≠ .hired) && decide (st ≠ .suspended)
  | .resume _, st => decide (st ≠ .suspended)
  | .close _, st => decide (st ≠ .payable)
  | .extra _ _, st => decide (st ≠ .hired) && decide (st ≠ .payable)
  | .jobCancel _, st => decide (st ≠ .assigned)
  | _, _ => false

/-! ### Room -/

/-- The queue has a place and granules for any body of at most 128 bytes (R30, R33). -/
def queueRoom (p : Part) : Prop := p.queue.entries.length < 12 ∧ 8 ≤ (freeGranules p.queue.entries).length

/-- The queue has a place and granules for one body (R30, R33). -/
def roomFor (b : Body) (p : Part) : Prop :=
  p.queue.entries.length < 12 ∧ granuleCount b ≤ (freeGranules p.queue.entries).length

/-- The queue has no place, and no WAITING entry of a lower class to evict for an entry of this one (R33). -/
def queueFull (cls : AccessClass) (p : Part) : Prop :=
  12 ≤ p.queue.entries.length ∧
    ∀ e ∈ p.queue.entries, e.st = .waiting → classRank (classOf (kindOf e.body)) ≤ classRank cls

/-- The outbound list has room for a notice (R193). -/
def noticeRoom (p : Part) : Prop := (notices p).length < 32

/-- A notice has been placed at the cab link port: last and with the overflow mark, which it clears, or, when the list holds
32, discarded with the mark set (R193). -/
def notified (body : NoticeBody) (p q : Part) : Prop :=
  (noticeRoom p →
    q.port = { p.port with outbound := p.port.outbound ++ [.notice body p.port.overflow], overflow := false }) ∧
  (¬ noticeRoom p → q.port = { p.port with overflow := true })

/-- No two offers share an id (R61). -/
def offersDistinct (p : Part) : Prop := (p.offers.map (fun o => o.id)).Nodup

/-- The offers with every one of a description CLOSED for a reason, the others as they are. -/
def closedWhere (c : Offer → Bool) (reason : CloseReason) (os : List Offer) : List Offer :=
  os.map (fun o => if c o then closedOffer reason none o else o)

/-- The OFFER_STATE notice of an offer that closes for a reason, with no item of a WITHDRAW or an award (R66). -/
def closedNotice (reason : CloseReason) (o : Offer) : NoticeBody :=
  .offerState
    { id := o.id, state := .closed, reason := some reason, newDeadline := none, withdrawReason := none, bidNotSent := false,
      award := none }

/-- A queue entry with a body, a source and a state. -/
def holdsEntry (b : Body) (source : Option Nat) (st : EntryState) (p : Part) : Prop :=
  ∃ e ∈ p.queue.entries, e.body = b ∧ e.source = source ∧ e.st = st

/-- The queue takes a STATUS: a WAITING one stands in it, or it has a place and a granule (R31, R33). -/
def statusRoom (p : Part) : Prop :=
  (∃ e ∈ p.queue.entries, kindOf e.body = .status ∧ e.st = .waiting) ∨
    (p.queue.entries.length < 12 ∧ 1 ≤ (freeGranules p.queue.entries).length)

/-- A STATUS of the state as it stands is WAITING in the queue (R102). -/
def statusQueued (p : Part) : Prop := ∃ e ∈ p.queue.entries, e.body = .status (statusBody p) ∧ e.st = .waiting

/-- The queue has room and no emergency frame, so it takes a BEACON or CANCEL as a new entry (R32, R33). -/
def emergencyRoom (p : Part) : Prop := queueRoom p ∧ ∀ e ∈ p.queue.entries, classOf (kindOf e.body) ≠ .emergency

/-- The frame of an active emergency, as the state stands, is WAITING in the queue (R178, R179). -/
def frameQueued (p : Part) : Prop :=
  holdsEntry (if frameState p.emg = .cancelPending then .cancel (cancelBody p) else .beacon (beaconBody p)) none .waiting p

/-- Owner and pattern of SIGN by the open-alert flag and the meter state (R187). -/
def signOwned (p : Part) : Prop :=
  p.sign.owner = (if p.emg.openAlert then .openAlert else .meter) ∧
    p.sign.sign.pattern = (if p.emg.openAlert then ⟨2, 2⟩ else signEntry p.sign.table p.meter.state)

/-- SIGN has followed from one state to another: it has the owner and the pattern of the second, is started anew in its ON
phase when either changed, runs on otherwise, and nothing else of the driver changed (R187). -/
def signFollows (p q : Part) : Prop :=
  signOwned q ∧
    ((q.sign.owner ≠ p.sign.owner ∨ q.sign.sign.pattern ≠ p.sign.sign.pattern) →
      q.sign.sign.phaseOn = true ∧ q.sign.sign.timer = q.sign.sign.pattern.on) ∧
    (q.sign.owner = p.sign.owner → q.sign.sign.pattern = p.sign.sign.pattern → q.sign.sign = p.sign.sign) ∧
    q.sign.alert = p.sign.alert ∧ q.sign.table = p.sign.table ∧ q.sign.write = p.sign.write

/-- Every BID of an offer that was in the queue has been given up: one not SENT is gone, a SENT one is marked WITHDRAWN
(R40). -/
def bidGivenUp (id : Nat) (p q : Part) : Prop :=
  (∀ x ∈ q.queue.entries, kindOf x.body = .bid → x.source = some id → x.st = .sent ∧ x.mark = some .withdrawn) ∧
    ∀ e ∈ p.queue.entries, kindOf e.body = .bid → e.source = some id → e.st = .sent →
      { e with mark := some .withdrawn } ∈ q.queue.entries

/-- No cycle start is waiting to be taken by a block (log 10). -/
def signalsTaken (p : Part) : Prop := p.sig = ⟨false, false, false, false⟩

/-! ### The log and the tariff store -/

/-- A change has reached the log: it begins an update when none is in flight, and otherwise joins the waiting changes; the
nonvolatile contents stay (R153). -/
def changeJoins (c : LogChange) (l m : TripLog) : Prop :=
  m.nv = l.nv ∧ (l.inFlight = none → m.inFlight = some [c] ∧ m.waiting = l.waiting) ∧
    (l.inFlight ≠ none → m.inFlight = l.inFlight ∧ m.waiting = l.waiting ++ [c])

/-- The time of an activation has come: it is NOW, or TIMED with no midnight left, the clock not UNSET and the effective
time-of-day reached (R134). -/
def activationReached (a : PendingActivation) (c : TimeBase) : Prop :=
  match a.time with
  | .now => True
  | .timed tod days => days = 0 ∧ c.state ≠ .unset ∧ tod ≤ c.tod

/-- The tariff store of a state is what an evaluation there leaves of contents: those contents, with the due mark set where
it was set or the time has come, and a swap begun where it is set and no trip is open (R135, R136). -/
def evaluated (t : TariffStore) (q : Part) : Prop :=
  match t.activation with
  | none => q.tariff = t
  | some a =>
    ∃ due : Bool, (due = true ↔ a.due = true ∨ activationReached a q.clock) ∧
      q.tariff =
        { t with
          activation := some { a with due := due },
          activity :=
            if due = true ∧ (q.meter.state = .offDuty ∨ q.meter.state = .vacant ∨ q.meter.state = .assigned) then .swapping
            else t.activity }

/-- What a start-up or a fleet restart leaves of the tariff store before its evaluation: CLEARING and LOADING become EMPTY,
no page is missing or held, no clear or page write is in flight, the last time read is absent; the rest stays (R141). -/
def restartedStore (t : TariffStore) : TariffStore :=
  { (if t.staging = .clearing ∨ t.staging = .loading then
      { t with staging := .empty, loadVersion := none, pageCount := none, imageCrc := none }
    else t) with
    missing := [], buffer := none, activity := if t.activity = .swapping then .swapping else .idle, lastTod := none }

/-- The tariff store with the roles of its banks exchanged, as a swap leaves it (R136). -/
def exchangedStore (t : TariffStore) : TariffStore :=
  { t with
    oneActive := !t.oneActive, activeVersion := (match t.loadVersion with | some v => v | none => 0),
    staging := if t.activeVersion = 0 then .empty else .superseded,
    loadVersion := if t.activeVersion = 0 then none else some t.activeVersion,
    pageCount := none, imageCrc := none, activation := none, missing := [], buffer := none, activity := .idle }

/-! ### What every step keeps -/

/-- Only a LOCKED controller has a cycle schedule (R5, R6, R7, R22, R26). -/
def scheduleLocked (p : Part) : Prop := p.ctl.schedule = [] ∨ p.ctl.acq = .locked

/-- At most 12 entries, whose tags lie in 0 to 15 and differ from each other (R28, R33). -/
def tagsDistinct (p : Part) : Prop :=
  p.queue.entries.length ≤ 12 ∧ (∀ e ∈ p.queue.entries, e.tag < 16) ∧ (p.queue.entries.map (fun e => e.tag)).Nodup

/-- The frame store has its 128 granules, no granule is listed twice, and each entry's granules hold its body's bytes, as
many as they have room for (R30). -/
def granulesHold (p : Part) : Prop :=
  p.queue.store.length = 128 ∧ (p.queue.entries.flatMap (fun e => e.granules)).Nodup ∧
    ∀ e ∈ p.queue.entries, (∀ g ∈ e.granules, g < 128) ∧ e.size = bodySize e.body ∧
      entryBytes e p = (bodyBytes e.body).take (16 * e.granules.length)

/-- The open-alert flag is set only while an emergency is active (R184). -/
def alertBacked (p : Part) : Prop := p.emg.openAlert = true → emergencyActive p.emg = true

/-- The bounded stores keep their bounds: outbound list, offer table, inbound store, uplink queue (R61, R33, R166, R193). -/
def storesBounded (p : Part) : Prop :=
  (responses p).length ≤ 4 ∧ (notices p).length ≤ 32 ∧ p.offers.length ≤ 8 ∧ p.msgs.inbox.length ≤ 24 ∧
    p.queue.entries.length ≤ 12

/-- No two offers share an id, and an AWARDED entry exists exactly while the meter is ASSIGNED, with its id as the awarded
offer id (R61, R76). -/
def awardedAssigned (p : Part) : Prop :=
  (p.offers.map (fun o => o.id)).Nodup ∧
  (p.meter.state = .assigned → ∃ o ∈ p.offers, o.state = .awarded) ∧
  (∀ o ∈ p.offers, o.state = .awarded → p.meter.state = .assigned ∧ p.meter.awarded = some o.id)

/-- The outstanding request is one whose answer waits: a HIRE or ON_DUTY held during a bank swap, a SET_CALIBRATION or a
SET_SIGN_PATTERN whose write is in flight; a calibration write finds the meter OFF_DUTY (R101, R192). -/
def answersMatch (p : Part) : Prop :=
  match p.port.outstanding with
  | none => p.meter.held = none ∧ p.meter.calWrite = none ∧ p.sign.write = none
  | some o =>
    (o.item = 4 ∧ p.meter.held = some .hire ∧ p.meter.calWrite = none ∧ p.sign.write = none) ∨
    (o.item = 2 ∧ p.meter.held = some .onDuty ∧ p.meter.calWrite = none ∧ p.sign.write = none) ∨
    (o.item = 10 ∧ p.meter.held = none ∧ p.meter.calWrite.isSome = true ∧ p.sign.write = none ∧ p.meter.state = .offDuty) ∨
    (o.item = 18 ∧ p.meter.held = none ∧ p.meter.calWrite = none ∧ p.sign.write.isSome = true)

/-- A bank swap is in flight only while no trip is open (R135, R136). -/
def swapWithoutTrip (p : Part) : Prop := p.tariff.activity = .swapping → tripOpen p.meter.state = false

end Sys2Proof.Machine
end

