-- ==== Sys2Proof/Certificates/Slice0/Obligations.lean ====
section
/-! DEFINITION. The statements for the provers, over the named definitions of the model. Each says what a rule of the spec,
or several rules together, say of the commands; a clause that rests on a choice of the model names its log entry. -/

open Sys2Proof Sys2Proof.Machine

/-- For every command c and state, a step with c at the front of the queue is exec of c on the same part with the rest of
the queue. On an empty queue the step answers the same state: that the block idles is the model's choice (log 16). -/
def Obligations.StepTakesFront : Prop :=
  (∀ (c : Instr) (cs : List Instr) (p : Part), step ⟨p, c :: cs⟩ = exec c ⟨p, cs⟩) ∧
  (∀ p : Part, step ⟨p, []⟩ = .next ⟨p, []⟩)

/-- A frame whose CRC, fleet number or address filter fails, or that arrives in a state that routes no frames, changes
nothing, whatever command it carries; the row for a dropped frame, an envelope whose CRC fails, that is no REQUEST or
that states more than 400 bytes, a cab-only item on the air link, a QUERY of an unknown subject on the air link, and a
marker that is not heard change nothing. Of the model's own choice: an envelope of another length than it states is
discarded too (log 19), and a malformed CLEAR FAULTS or QUERY TRIP of the base is ignored (log 22). A frame passes
exactly when its CRC is good, a fleet number is set and the frame's equals it, the state is ACQUIRE, LOCKED or
HOLDOVER, and it is addressed ALL, CAB to the own address (not 0), or GROUP to a number of the table. A marker is
heard exactly when its bytes read as a marker, a fleet number is set and the marker's equals it, and in PARKED the
next cycle is a listening time (the cab's address modulo 8; log 24). A frame is whole when its last two bytes are the
CRC of those before; one whose CRC fails, of another kind, with a count above 24, 8 or 16, of another length than its
counts give, or with a grant beyond slot 15 or of no or more than 4 slots, is no marker. -/
def Obligations.DroppedFramesLeaveNoTrace : Prop :=
  (∀ (c : Instr) (s : State) (h : AirHeader),
    frameHeader c = some h → framePasses h s.part = false → exec c s = .next s) ∧
  (∀ (h : AirHeader) (kind : Nat) (s : State), exec (.downlinkFrameDropped h kind) s = .next s) ∧
  (∀ (bytes : List Byte) (s : State),
    (openFrame bytes = none ∨
      ∃ b, openFrame bytes = some b ∧
        (beNat (b.take 1) ≠ 1 ∨ 400 < beNat ((b.drop 4).take 2) ∨ b.length ≠ 6 + beNat ((b.drop 4).take 2))) →
    exec (.envelopeDiscarded bytes) s = .next s) ∧
  (∀ (h : AirHeader) (record : Bool) (s : State),
    exec (.clearFaults (.air h) none record) s = .next s ∧ exec (.queryTrip (.air h) none) s = .next s) ∧
  (∀ (h : AirHeader) (code : Nat) (s : State), exec (.cabItemOnAirLink h code) s = .next s) ∧
  (∀ (h : AirHeader) (s : State), exec (.queryUnknownSubject (.air h)) s = .next s) ∧
  (∀ (frame : List Byte) (arrival : Nat) (s : State),
    heardMarker frame s.part = none → exec (.marker frame arrival) s = .next s) ∧
  (∀ (h : AirHeader) (p : Part),
    framePasses h p = true ↔
      h.crcOk = true ∧ p.mgmt.identity.fleet ≠ 0 ∧ h.fleet = p.mgmt.identity.fleet ∧
      (p.ctl.acq = .acquire ∨ p.ctl.acq = .locked ∨ p.ctl.acq = .holdover) ∧
      (h.kind = .all ∨ (h.kind = .cab ∧ h.addr = p.mgmt.identity.addr ∧ p.mgmt.identity.addr ≠ 0) ∨
        (h.kind = .group ∧ h.addr ∈ p.ctl.groups))) ∧
  (∀ (frame : List Byte) (p : Part) (m : Marker),
    heardMarker frame p = some m ↔
      readMarker frame = some m ∧ p.mgmt.identity.fleet ≠ 0 ∧ m.fleet = p.mgmt.identity.fleet ∧
      (p.ctl.acq = .parked → (p.ctl.cycle + 1) % 4096 % 8 = p.mgmt.identity.addr % 8)) ∧
  (∀ frame b : List Byte, openFrame frame = some b ↔ frame = b ++ beBytes 2 (crc16 b).toNat) ∧
  (∀ frame : List Byte, openFrame frame = none → readMarker frame = none) ∧
  (∀ (frame b : List Byte) (a g q : Nat), openFrame frame = some b → a = beNat ((b.drop 12).take 1) →
    g = beNat ((b.drop 13).take 1) → q = beNat ((b.drop 14).take 1) →
    ((b.length < 15 ∨ beNat ((b.drop 1).take 1) % 64 ≠ 1 ∨ 24 < a ∨ 8 < g ∨ 16 < q ∨
        beNat ((b.drop 4).take 2) ≠ 9 + 2 * a + 3 * g + 2 * q ∨ b.length ≠ 15 + 2 * a + 3 * g + 2 * q) →
      readMarker frame = none) ∧
    (∀ m, readMarker frame = some m →
      m.fleet = beNat (b.take 1) ∧ m.cycle = beNat ((b.drop 6).take 2) % 4096 ∧ m.acks.length = a ∧ m.grants.length = g ∧
      m.pages.length = q ∧ ∀ x ∈ m.grants, 1 ≤ x.count ∧ x.count ≤ 4 ∧ x.first + x.count ≤ 16))

/-- While a request is outstanding, every further request of the cab link whose parameters are in form is answered BUSY
with its own number (the response is discarded when 4 stand in the list); the outstanding request stays outstanding. A
request with an unknown item code (UNKNOWN_ITEM_CODE), for an air-link item (AIR_ITEM_ON_CAB_LINK), for a QUERY of an
unknown subject (QUERY_UNKNOWN_SUBJECT), or with a lacking or malformed parameter is answered BAD with its own number,
whether or not another is outstanding, and does not become outstanding (that a POSITION coordinate above 65,535, an
age above 255 and a SET_SIGN_PATTERN time above 255 are malformed, and so BAD rather than BUSY, is the model's choice,
log 20). In both cases no notice is placed and nothing but the port changes (the calibration-enable line is an input
that SET_CALIBRATION reads). Bytes that pass the port's check and name an item code 1 to 22 do exactly what that
item's row does with the body as the bytes spell it (a free reading; that such bytes may come on the row
ENVELOPE_DISCARDED is the model's choice, log 19, and so is that an item without a parameter is taken whatever bytes
its body holds, log 45), and any other code is answered BAD. For ON_DUTY, OFF_DUTY, HIRE, STOP, RESUME, CLOSE, EXTRA
and JOB_CANCEL: taken while no request is outstanding, in a meter state whose cell of the table reads RS (a HIRE or an
ON_DUTY while no bank swap is in flight), the request is answered REFUSED_STATE and nothing but the port changes. -/
def Obligations.RequestsTurnedAway : Prop :=
  (∀ (c : Instr) (s : State) (req item : Nat) (o : Outstanding),
    requestOf c = some (req, item) → s.part.port.outstanding = some o →
    ∃ q, exec c s = .next { s with part := q } ∧ q.port.outstanding = some o ∧
      responses q =
        (if (responses s.part).length < 4 then responses s.part ++ [.response req item .busy .none] else responses s.part) ∧
      notices q = notices s.part ∧ Part.changesOnly [.port, .lines] s.part q) ∧
  (∀ (c : Instr) (s : State) (req item : Nat),
    badRequestOf c = some (req, item) →
    ∃ q, exec c s = .next { s with part := q } ∧ q.port.outstanding = s.part.port.outstanding ∧
      responses q =
        (if (responses s.part).length < 4 then responses s.part ++ [.response req item .bad .none] else responses s.part) ∧
      notices q = notices s.part ∧ Part.changesOnly [.port, .lines] s.part q) ∧
  (∀ (s : State) (bytes body : List Byte) (req code : Nat), readEnvelope bytes = some (req, code, body) →
    (code = 0 ∨ 22 < code) → exec (.envelopeDiscarded bytes) s = exec (.unknownItemCode req code) s) ∧
  (∀ (s : State) (bytes body : List Byte) (req code : Nat), readEnvelope bytes = some (req, code, body) →
    1 ≤ code → code ≤ 22 →
    ∃ item, itemList[code - 1]? = some item ∧
      exec (.envelopeDiscarded bytes) s =
        exec (requestRow req (Config.readRequest code body) s.part.lines.calEnable item) s) ∧
  (∀ (c : Instr) (s : State) (req item : Nat),
    requestOf c = some (req, item) → refusedIn c s.part.meter.state = true → portFree s.part = true →
    (s.part.tariff.activity ≠ .swapping ∨ (item ≠ 2 ∧ item ≠ 4)) →
    ∃ q, exec c s = .next { s with part := q } ∧ answered req item .refusedState .none s.part q ∧
      notices q = notices s.part ∧ Part.changesOnly [.port] s.part q)

/-- ON_DUTY taken in OFF_DUTY with an image in the ACTIVE bank and no swap in flight: OK; the meter goes to VACANT and
changes nothing else of its own; the shift counter advances, its new value begins a log update or joins the waiting
changes, and a shift with the event's time and every sum at 0 is open; the METER notice follows the LINK notice of a
wake. With an empty bank: NO_TARIFF, and nothing but the port changes. OFF_DUTY taken in VACANT: OK; the meter goes to
OFF_DUTY; the open shift's summary replaces any other and no shift is open, a copy of the totalizers begins a log
update or joins the waiting changes; with room for it the summary is QUEUED and its entry WAITS in the queue, and with
12 entries there and none of them an older summary's it stays PENDING; every open offer closes with CANCELLED, each
with its OFFER_STATE notice, in table order, before the METER notice. The order of LINK and METER at ON_DUTY, that of
the OFFER_STATE and METER notices at OFF_DUTY, and that the summary is formed and offered before the closing offers
free the places of their BIDs, are the model's choice (log 17). What each of them changes besides is named. -/
def Obligations.OnAndOffDuty : Prop :=
  (∀ (s : State) (req : Nat), portFree s.part = true → s.part.tariff.activity ≠ .swapping →
    s.part.meter.state = .offDuty → s.part.tariff.activeVersion ≠ 0 →
    ∃ q, exec (.onDuty req) s = .next { s with part := q } ∧ answered req 2 .ok .none s.part q ∧
      q.meter = { s.part.meter with state := .vacant } ∧
      q.log.shiftCounter = (if 65535 ≤ s.part.log.shiftCounter then 1 else s.part.log.shiftCounter + 1) ∧
      q.log.shift =
        some ⟨(if 65535 ≤ s.part.log.shiftCounter then 1 else s.part.log.shiftCounter + 1), s.part.clock.tod, s.part.clock.day, ⟨0, 0, 0, 0, 0, 0, 0, 0⟩, 0⟩ ∧
      changeJoins (.shiftNumber (if 65535 ≤ s.part.log.shiftCounter then 1 else s.part.log.shiftCounter + 1)) s.part.log q.log ∧
      ((notices s.part).length + 2 ≤ 32 →
        noticeBodies q =
          noticeBodies s.part ++ (if s.part.ctl.acq = .parked then [.link .holdover s.part.ctl.cycle] else []) ++
            [meterNotice q]) ∧
      Part.changesOnly [.meter, .queue, .draws, .log, .port, .sign, .ctl] s.part q) ∧
  (∀ (s : State) (req : Nat), portFree s.part = true → s.part.tariff.activity ≠ .swapping →
    s.part.meter.state = .offDuty → s.part.tariff.activeVersion = 0 →
    ∃ q, exec (.onDuty req) s = .next { s with part := q } ∧ answered req 2 .noTariff .none s.part q ∧
      Part.changesOnly [.port] s.part q) ∧
  (∀ (s : State) (req : Nat) (sh : Shift), portFree s.part = true → s.part.meter.state = .vacant →
    s.part.log.shift = some sh → offersDistinct s.part →
    ∃ q sm, exec (.offDuty req) s = .next { s with part := q } ∧ answered req 3 .ok .none s.part q ∧
      q.meter = { s.part.meter with state := .offDuty } ∧ q.log.shift = none ∧
      sm = { number := sh.number, startTod := sh.startTod, startDay := sh.startDay, endTod := s.part.clock.tod,
             sums := sh.sums } ∧
      (∃ st, q.log.summary = some (sm, st)) ∧ q.log.totals = s.part.log.totals ∧
      changeJoins (.totals s.part.log.totals) s.part.log q.log ∧
      (s.part.queue.entries.length ≤ 10 → 9 ≤ (freeGranules s.part.queue.entries).length →
        q.log.summary = some (sm, .queued) ∧ holdsEntry (.shiftSummary sm) none .waiting q) ∧
      (12 ≤ s.part.queue.entries.length → (∀ e ∈ s.part.queue.entries, kindOf e.body ≠ .shiftSummary) →
        q.log.summary = some (sm, .pending)) ∧
      q.offers = closedWhere openOffer .cancelled s.part.offers ∧
      ((notices s.part).length + s.part.offers.length + 1 ≤ 32 →
        noticeBodies q =
          noticeBodies s.part ++ (s.part.offers.filter openOffer).map (closedNotice .cancelled) ++ [meterNotice q]) ∧
      Part.changesOnly [.meter, .queue, .draws, .log, .port, .sign, .offers] s.part q)

/-- HIRE taken in VACANT (a street trip: no job id, price mode NONE; every open offer closes with CANCELLED) or in
ASSIGNED (the AWARDED entry's job id and price; that entry leaves the table) with no swap in flight: OK; the meter is
HIRED with an empty plausibility window and no awarded offer; the trip has the next trip number, the event's time,
zone and active image version, no extras, clear marks but those of the clock, and accounts opened on the tariff of the
band: its parameters and mode, the weights 1000 x time step and distance step x K, Q and Q1 with Q1 as the first
threshold, metered fare the flagfall, no progress, no first drop, one usage entry of that tariff and area with no drop
and offset 0, no second, pulse or extra counted, FIXED for a fixed price, SATURATED where the opening fare was held,
CAPPED and USAGE_TRUNCATED clear. The OFFER_STATE notices of the offers closed stand before the METER notice (an order
of the model's choice, log 17). What else changes is named. -/
def Obligations.HireOpensTrip : Prop :=
  let opened (t : Trip) (p : Part) (jobId : Option JobId) (price : Price) : Prop :=
    t.number = (if 99999999 ≤ p.log.tripCounter then 1 else p.log.tripCounter + 1) ∧ t.startTod = p.clock.tod ∧ t.startDay = p.clock.day ∧
    t.startZone = p.zones.zone ∧ t.imageVersion = p.tariff.activeVersion ∧ t.jobId = jobId ∧ t.price = price ∧
    t.extras = [] ∧ t.powerInterrupted = false ∧ t.pulseClamped = false ∧ t.distanceSuspect = false ∧
    (t.clockUnset = true ↔ p.clock.state = .unset) ∧ (t.clockFree = true ↔ p.clock.state = .free) ∧
    (∀ sh, p.log.shift = some sh → t.shift = sh.number) ∧
    (∀ n τ, n = bandTariff (activeImage p) p.clock.state p.zones.area p.clock.day p.clock.tod →
      τ = tariffOf (activeImage p) n →
      t.fare.tariff = τ.number ∧ t.fare.flagfall = τ.flagfall ∧ t.fare.drop = τ.drop ∧ t.fare.distStep = τ.distStep ∧
      t.fare.timeStep = τ.timeStep ∧ t.fare.initial = τ.initial ∧ t.fare.mode = τ.mode ∧
      t.fare.wp = 1000 * τ.timeStep ∧ t.fare.ws = τ.distStep * p.meter.k ∧
      t.fare.q = τ.distStep * p.meter.k * τ.timeStep ∧
      t.fare.q1 = (if 0 < τ.initial then τ.initial * p.meter.k * τ.timeStep else τ.distStep * p.meter.k * τ.timeStep) ∧
      t.fare.threshold = t.fare.q1 ∧ t.fare.progress = 0 ∧ t.fare.firstDrop = false ∧ t.fare.metered = τ.flagfall ∧
      t.fare.usage = [{ tariff := n, area := p.zones.area, drops := 0, start := 0 }] ∧ t.fare.hiredPulses = 0 ∧
      t.fare.hiredSeconds = 0 ∧ t.fare.waitingSeconds = 0 ∧ t.fare.extrasTotal = 0 ∧
      t.fare.charged = min 999999 (fareDue price τ.flagfall 0) ∧
      (t.fare.saturated = true ↔ 999999 < fareDue price τ.flagfall 0) ∧ (t.fare.fixed = true ↔ ∃ v, price = .fixed v) ∧
      t.fare.capped = false ∧ t.fare.usageTruncated = false)
  (∀ (s : State) (req : Nat), portFree s.part = true → s.part.tariff.activity ≠ .swapping →
    s.part.meter.state = .vacant → offersDistinct s.part →
    ∃ q t, exec (.hire req) s = .next { s with part := q } ∧ answered req 4 .ok .none s.part q ∧
      q.meter = { s.part.meter with state := .hired, trip := some t, awarded := none, window := ⟨0, 0, none, none, 0⟩ } ∧
      opened t s.part none .unpriced ∧ q.offers = closedWhere openOffer .cancelled s.part.offers ∧
      ((notices s.part).length + s.part.offers.length + 1 ≤ 32 →
        noticeBodies q =
          noticeBodies s.part ++ (s.part.offers.filter openOffer).map (closedNotice .cancelled) ++ [meterNotice q]) ∧
      Part.changesOnly [.meter, .queue, .draws, .log, .port, .sign, .offers] s.part q) ∧
  (∀ (s : State) (req id : Nat) (o : Offer), portFree s.part = true → s.part.tariff.activity ≠ .swapping →
    s.part.meter.state = .assigned → s.part.meter.awarded = some id → findOffer id s.part.offers = some o →
    ∃ q t, exec (.hire req) s = .next { s with part := q } ∧ answered req 4 .ok .none s.part q ∧
      q.meter = { s.part.meter with state := .hired, trip := some t, awarded := none, window := ⟨0, 0, none, none, 0⟩ } ∧
      opened t s.part o.jobId o.price ∧ q.offers = s.part.offers.filter (fun x => x.id != id) ∧
      (noticeRoom s.part → noticeBodies q = noticeBodies s.part ++ [meterNotice q]) ∧
      Part.changesOnly [.meter, .queue, .draws, .log, .port, .sign, .offers] s.part q)

/-- While a swap is in flight a HIRE or an ON_DUTY becomes the outstanding request and is held: no response, nothing but
the port and the meter's held request changes. At the completion the banks exchange roles, the active version is the
staged one, the staging state is SUPERSEDED with the old version, or EMPTY when there was none, and no activation is
pending; a held ON_DUTY is then taken on the new image and answered OK; a held HIRE is answered OK, and its trip (a
street trip from VACANT, the awarded job's from ASSIGNED) records the new version. That the completion which finds a
request held is one event under both of its rows is the model's choice (log 9). -/
def Obligations.SwapHoldsRequests : Prop :=
  (∀ (s : State) (req : Nat), s.part.tariff.activity = .swapping → s.part.port.outstanding = none →
    (∃ q, exec (.hire req) s = .next { s with part := q } ∧ q.meter = { s.part.meter with held := some .hire } ∧
      q.port = { s.part.port with outstanding := some ⟨req, 4, false⟩ } ∧ Part.changesOnly [.port, .meter] s.part q) ∧
    (∃ q, exec (.onDuty req) s = .next { s with part := q } ∧ q.meter = { s.part.meter with held := some .onDuty } ∧
      q.port = { s.part.port with outstanding := some ⟨req, 2, false⟩ } ∧ Part.changesOnly [.port, .meter] s.part q)) ∧
  (∀ s : State, s.part.tariff.activity = .swapping → s.part.meter.held = none →
    ∃ q, exec .swapComplete s = .next { s with part := q } ∧
      activeBank q.tariff = stagingBank s.part.tariff ∧ stagingBank q.tariff = activeBank s.part.tariff ∧
      q.tariff.activeVersion = s.part.tariff.loadVersion.getD 0 ∧
      (s.part.tariff.activeVersion ≠ 0 →
        q.tariff.staging = .superseded ∧ q.tariff.loadVersion = some s.part.tariff.activeVersion) ∧
      (s.part.tariff.activeVersion = 0 → q.tariff.staging = .empty ∧ q.tariff.loadVersion = none) ∧
      q.tariff.activation = none ∧ q.tariff.activity = .idle ∧ Part.changesOnly [.tariff] s.part q) ∧
  (∀ (s : State) (req v : Nat), s.part.tariff.activity = .swapping → s.part.meter.held = some .onDuty →
    s.part.port.outstanding = some ⟨req, 2, false⟩ → (responses s.part).length < 4 → s.part.meter.state = .offDuty →
    s.part.tariff.loadVersion = some v → v ≠ 0 →
    ∃ q, exec .heldRequestTaken s = .next { s with part := q } ∧ exec .swapComplete s = .next { s with part := q } ∧
      answered req 2 .ok .none s.part q ∧ q.meter = { s.part.meter with state := .vacant, held := none } ∧
      q.tariff.activeVersion = v ∧ q.tariff.activity = .idle ∧
      Part.changesOnly [.tariff, .meter, .queue, .draws, .log, .port, .sign, .ctl] s.part q) ∧
  (∀ (s : State) (req v : Nat), s.part.tariff.activity = .swapping → s.part.meter.held = some .hire →
    s.part.port.outstanding = some ⟨req, 4, false⟩ → (responses s.part).length < 4 → s.part.meter.state = .vacant →
    s.part.tariff.loadVersion = some v →
    ∃ q t, exec .heldRequestTaken s = .next { s with part := q } ∧ exec .swapComplete s = .next { s with part := q } ∧
      answered req 4 .ok .none s.part q ∧ q.meter.state = .hired ∧ q.meter.trip = some t ∧ t.imageVersion = v ∧
      t.jobId = none ∧ t.price = .unpriced ∧
      Part.changesOnly [.tariff, .meter, .queue, .draws, .log, .port, .sign, .ctl, .offers] s.part q) ∧
  (∀ (s : State) (req v id : Nat) (o : Offer), s.part.tariff.activity = .swapping → s.part.meter.held = some .hire →
    s.part.port.outstanding = some ⟨req, 4, false⟩ → (responses s.part).length < 4 → s.part.meter.state = .assigned →
    s.part.meter.awarded = some id → findOffer id s.part.offers = some o → s.part.tariff.loadVersion = some v →
    ∃ q t, exec .heldRequestTaken s = .next { s with part := q } ∧ exec .swapComplete s = .next { s with part := q } ∧
      answered req 4 .ok .none s.part q ∧ q.meter.state = .hired ∧ q.meter.trip = some t ∧ t.imageVersion = v ∧
      t.jobId = o.jobId ∧ t.price = o.price ∧ q.offers = s.part.offers.filter (fun x => x.id != id) ∧
      Part.changesOnly [.tariff, .meter, .queue, .draws, .log, .port, .sign, .ctl, .offers] s.part q)

/-- At every command but a start-up that leaves the meter in another state than before, whatever caused the change: it is
OFF_DUTY to VACANT or back, VACANT to ASSIGNED or HIRED, ASSIGNED to HIRED or VACANT, HIRED or SUSPENDED to PAYABLE,
SUSPENDED to HIRED, or PAYABLE to VACANT; a STATUS of the state as it then stands is WAITING in the queue, in the
place of a WAITING one or given a place and a granule; the last notice, given room in the list, is the METER notice of
that state (that it stands after the notices of the offers closed and of a wake at the same event is the model's
choice, log 17), with the awarded offer while ASSIGNED and the items of an open trip; and SIGN has the owner that the
open-alert flag gives and the pattern of that owner and the new state, its generator started anew in its ON phase when
either changed and running on otherwise, the rear lamp and the table as they were. A meter state changes at no command
but ON_DUTY, OFF_DUTY, HIRE, STOP, RESUME, CLOSE, JOB_CANCEL (by their own rows or as envelope bytes), the completion
of a swap with a request held, WITHDRAW, AWARD, and the fleet restart's two rows. A change out of OFF_DUTY wakes a
parked controller. -/
def Obligations.MeterChangesAreHandedOn : Prop :=
  let startUp (c : Instr) : Prop := ∃ ignition switch, c = .coldStartUp ignition switch ∨ c = .warmStartUp ignition switch
  (∀ (c : Instr) (s t : State), exec c s = .next t → t.part.meter.state ≠ s.part.meter.state → ¬ startUp c →
    (s.part.meter.state, t.part.meter.state) ∈
      [(MeterState.offDuty, MeterState.vacant), (.vacant, .offDuty), (.vacant, .assigned), (.vacant, .hired),
        (.assigned, .hired), (.assigned, .vacant), (.hired, .payable), (.suspended, .payable), (.suspended, .hired),
        (.payable, .vacant)] ∧
    (statusRoom s.part → statusQueued t.part) ∧
    ((notices s.part).length + s.part.offers.length + 2 ≤ 32 →
      (noticeBodies t.part).getLast? = some (meterNotice t.part)) ∧
    signFollows s.part t.part ∧
    (s.part.meter.state = .offDuty → t.part.ctl.acq ≠ .parked)) ∧
  (∀ (c : Instr) (s t : State), exec c s = .next t → t.part.meter.state ≠ s.part.meter.state → ¬ startUp c →
    (∃ req, c = .onDuty req ∨ c = .offDuty req ∨ c = .hire req ∨ c = .stop req ∨ c = .resume req ∨ c = .close req ∨
      c = .jobCancel req) ∨ (∃ bytes, c = .envelopeDiscarded bytes) ∨
    (s.part.meter.held ≠ none ∧ (c = .swapComplete ∨ c = .heldRequestTaken)) ∨
    (∃ h id r, c = .withdraw h id r) ∨ (∃ h f, c = .award h f) ∨ c = .identityWriteComplete ∨
    (∃ h, c = .fleetRestart h)) ∧
  (∀ p : Part,
    meterNotice p =
      .meter p.meter.state (if p.meter.state = .assigned then p.meter.awarded else none)
        (p.meter.trip.map (fun t =>
          { number := t.number,
            mode := (match t.price with | .unpriced => .unpriced | .fixed _ => .fixed | .cap _ => .cap),
            tariff := t.fare.tariff, metered := t.fare.metered, extrasTotal := t.fare.extrasTotal,
            charged := t.fare.charged })))

/-- STOP taken in HIRED: OK, PAYABLE, the plausibility window discarded, the trip as it is. STOP taken in SUSPENDED: OK,
PAYABLE, POWER_INTERRUPTED set in the trip. RESUME taken in SUSPENDED: OK, HIRED, POWER_INTERRUPTED set, a new window.
Nothing else of the meter changes, and the other parts that may change are named. -/
def Obligations.StopAndResume : Prop :=
  (∀ (s : State) (req : Nat), portFree s.part = true → s.part.meter.state = .hired →
    ∃ q, exec (.stop req) s = .next { s with part := q } ∧ answered req 5 .ok .none s.part q ∧
      q.meter = { s.part.meter with state := .payable, window := ⟨0, 0, none, none, 0⟩ } ∧
      Part.changesOnly [.meter, .queue, .draws, .log, .port, .sign] s.part q) ∧
  (∀ (s : State) (req : Nat), portFree s.part = true → s.part.meter.state = .suspended →
    ∃ q, exec (.stop req) s = .next { s with part := q } ∧ answered req 5 .ok .none s.part q ∧
      q.meter =
        { s.part.meter with
          state := .payable, trip := s.part.meter.trip.map (fun t => { t with powerInterrupted := true }) } ∧
      Part.changesOnly [.meter, .queue, .draws, .log, .port, .sign] s.part q) ∧
  (∀ (s : State) (req : Nat), portFree s.part = true → s.part.meter.state = .suspended →
    ∃ q, exec (.resume req) s = .next { s with part := q } ∧ answered req 6 .ok .none s.part q ∧
      q.meter =
        { s.part.meter with
          state := .hired, trip := s.part.meter.trip.map (fun t => { t with powerInterrupted := true }),
          window := ⟨0, 0, none, none, 0⟩ } ∧
      Part.changesOnly [.meter, .queue, .draws, .log, .port, .sign] s.part q)

/-- CLOSE taken in PAYABLE with a trip open: OK; the trip is absent and the meter VACANT; the log's records are, but for
their delivery states, those before (without the oldest when 32 stood there) and last the trip's record: its numbers,
job, price, times, zones, the extras with their subtotals (count times amount, held at 999,999) and total, waiting and
hired seconds, usage, the hired distance from the pulses and K, the charged fare formed a last time, and the nine
flags, SATURATED where that fare was held and CAPPED exactly when a cap lies below the metered fare. The record with
its eviction, the counter and a copy of the totalizers begins a log update or joins the waiting changes. With room in
the queue the delivery offer makes the oldest UNDELIVERED records QUEUED, each with a WAITING TRIP entry, until two
are QUEUED; a queue of 12 entries that holds a WAITING STATUS leaves every record as it is. The trip counter is the
trip's number; hires, hired distance and the fare total advance by the record, and every sum of the open shift;
TRIP_LOST is set when the record evicted was not DELIVERED. The tariff store evaluates its pending activation. What
else changes is named. -/
def Obligations.CloseWritesRecord : Prop :=
  let amount (p : Part) (n : Nat) : Nat :=
    match (activeImage p).extras.find? (fun e => e.number == n) with
    | some e => e.amount
    | none => 0
  let undelivered (r : TripRecord) : TripRecord := { r with delivery := .undelivered }
  let waits (r : TripRecord) : Bool := decide (r.delivery = .undelivered)
  let taken (rs : List TripRecord) : Nat := rs.countP (fun r => decide (r.delivery = .queued))
  ∀ (s : State) (req : Nat) (t : Trip), portFree s.part = true → s.part.meter.state = .payable →
    s.part.meter.trip = some t →
    ∃ q r, exec (.close req) s = .next { s with part := q } ∧ answered req 7 .ok .none s.part q ∧
      q.meter = { s.part.meter with state := .vacant, trip := none } ∧
      r.number = t.number ∧ r.shift = t.shift ∧ r.jobId = t.jobId ∧ r.price = t.price ∧
      r.imageVersion = t.imageVersion ∧ r.startTod = t.startTod ∧ r.startDay = t.startDay ∧ r.endTod = s.part.clock.tod ∧
      r.startZone = t.startZone ∧ r.endZone = s.part.zones.zone ∧
      r.charged = min 999999 (fareDue t.price t.fare.metered t.fare.extrasTotal) ∧ r.metered = t.fare.metered ∧
      r.distance = min 99999999 (t.fare.hiredPulses * 1000 / s.part.meter.k) ∧ r.usage = t.fare.usage ∧
      r.waiting = t.fare.waitingSeconds ∧ r.hiredSeconds = t.fare.hiredSeconds ∧
      r.extras = t.extras.map (fun x => ⟨x.1, x.2, min 999999 (x.2 * amount s.part x.1)⟩) ∧ r.extrasTotal = t.fare.extrasTotal ∧
      r.flags =
        { saturated := t.fare.saturated || decide (999999 < fareDue t.price t.fare.metered t.fare.extrasTotal),
          fixed := t.fare.fixed,
          capped := (match t.price with
            | .cap v => decide (v < t.fare.metered)
            | .unpriced => t.fare.capped
            | .fixed _ => t.fare.capped),
          powerInterrupted := t.powerInterrupted, clockFree := t.clockFree, clockUnset := t.clockUnset,
          pulseClamped := t.pulseClamped, distanceSuspect := t.distanceSuspect, usageTruncated := t.fare.usageTruncated } ∧
      q.log.records.map undelivered =
        ((if 32 ≤ s.part.log.records.length then s.part.log.records.drop 1 else s.part.log.records) ++ [r]).map undelivered ∧
      r.delivery = .undelivered ∧
      changeJoins (.closed r (decide (32 ≤ s.part.log.records.length)) t.number q.log.totals) s.part.log q.log ∧
      (∀ rs, rs = (if 32 ≤ s.part.log.records.length then s.part.log.records.drop 1 else s.part.log.records) ++ [r] →
        (rs.map (fun x => x.number)).Nodup →
        (s.part.queue.entries.length ≤ 9 → 17 ≤ (freeGranules s.part.queue.entries).length →
          ∀ i x, rs[i]? = some x →
            (waits x = true ∧ (rs.take i).countP waits + taken rs < 2 →
              q.log.records[i]? = some { x with delivery := .queued } ∧
              holdsEntry (.trip { x with delivery := .queued }) (some x.number) .waiting q) ∧
            (¬ (waits x = true ∧ (rs.take i).countP waits + taken rs < 2) → q.log.records[i]? = some x)) ∧
        (12 ≤ s.part.queue.entries.length →
          (∃ e ∈ s.part.queue.entries, kindOf e.body = .status ∧ e.st = .waiting) → q.log.records = rs)) ∧
      q.log.tripCounter = t.number ∧
      q.log.totals.hires = (s.part.log.totals.hires + 1) % 100000000 ∧
      q.log.totals.hired =
        (s.part.log.totals.hired + (s.part.log.totals.metreResidual + r.distance) / 100) % 100000000 ∧
      q.log.totals.metreResidual = (s.part.log.totals.metreResidual + r.distance) % 100 ∧
      q.log.totals.fares = (s.part.log.totals.fares + r.charged) % 10000000000 ∧
      q.log.totals.distance = s.part.log.totals.distance ∧
      (∀ sh, s.part.log.shift = some sh →
        q.log.shift =
          some
            { sh with
              sums :=
                { trips := min 65535 (sh.sums.trips + 1), hired := min 99999999 (sh.sums.hired + r.distance),
                  vacant := sh.sums.vacant, waiting := min 99999999 (sh.sums.waiting + r.waiting),
                  charged := min 99999999 (sh.sums.charged + r.charged),
                  extras := min 99999999 (sh.sums.extras + r.extrasTotal),
                  fixedTrips := if r.flags.fixed then min 65535 (sh.sums.fixedTrips + 1) else sh.sums.fixedTrips,
                  cappedTrips := if r.flags.capped then min 65535 (sh.sums.cappedTrips + 1) else sh.sums.cappedTrips } }) ∧
      flagOf q .tripLost =
        (flagOf s.part .tripLost ||
          (decide (32 ≤ s.part.log.records.length) &&
            s.part.log.records.head?.any (fun x => decide (x.delivery ≠ .delivered)))) ∧
      (∀ f, f ≠ .tripLost → flagOf q f = flagOf s.part f) ∧
      evaluated s.part.tariff q ∧
      Part.changesOnly [.meter, .queue, .draws, .log, .port, .sign, .mgmt, .tariff] s.part q

/-- EXTRA taken in HIRED or PAYABLE: NOT_FOUND when the image defines no such extra, LIMIT when the count stands at its
limit; otherwise OK, the count of that extra rises by one and no other count changes, the extras total is the sum of
the subtotals (count times amount, each and the sum held at 999,999), the charged fare is reformed, SATURATED is set
where one of these was held, and a METER notice is placed, with the overflow mark, which it clears, or, where the list
holds 32 notices, discarded with the mark set; nothing but the trip and the port changes. JOB_CANCEL taken in
ASSIGNED: OK, the AWARDED entry closes with CANCELLED, its OFFER_STATE notice standing before the METER notice (an
order of the model's choice, log 17), the meter goes to VACANT with no awarded offer, and the other parts that may
change are named. -/
def Obligations.ExtraAndJobCancel : Prop :=
  let amount (p : Part) (n : Nat) : Nat :=
    match (activeImage p).extras.find? (fun e => e.number == n) with
    | some e => e.amount
    | none => 0
  (∀ (s : State) (req n : Nat) (t : Trip), portFree s.part = true →
    (s.part.meter.state = .hired ∨ s.part.meter.state = .payable) → s.part.meter.trip = some t →
    (findExtra (activeImage s.part) n = none →
      ∃ q, exec (.extra req (some n)) s = .next { s with part := q } ∧ answered req 8 .notFound .none s.part q ∧
        Part.changesOnly [.port] s.part q) ∧
    (∀ e, findExtra (activeImage s.part) n = some e → extraCount n t.extras = e.maxCount →
      ∃ q, exec (.extra req (some n)) s = .next { s with part := q } ∧ answered req 8 .limit .none s.part q ∧
        Part.changesOnly [.port] s.part q) ∧
    (∀ e, findExtra (activeImage s.part) n = some e → extraCount n t.extras ≠ e.maxCount →
      ∃ q u, exec (.extra req (some n)) s = .next { s with part := q } ∧ answered req 8 .ok .none s.part q ∧
        q.meter = { s.part.meter with trip := some u } ∧
        extraCount n u.extras = extraCount n t.extras + 1 ∧ (∀ m, m ≠ n → extraCount m u.extras = extraCount m t.extras) ∧
        u.extras.map Prod.fst = (if n ∈ t.extras.map Prod.fst then t.extras.map Prod.fst else t.extras.map Prod.fst ++ [n]) ∧
        u.fare.metered = t.fare.metered ∧
        (∀ subtotals, subtotals = u.extras.map (fun x => min 999999 (x.2 * amount s.part x.1)) →
          u.fare.extrasTotal = min 999999 subtotals.sum ∧
          (u.fare.saturated = true ↔
            t.fare.saturated = true ∨ (∃ x ∈ u.extras, 999999 < x.2 * amount s.part x.1) ∨ 999999 < subtotals.sum ∨
              999999 < fareDue t.price t.fare.metered u.fare.extrasTotal)) ∧
        u.fare.charged = min 999999 (fareDue t.price t.fare.metered u.fare.extrasTotal) ∧
        (noticeRoom s.part →
          notices q = notices s.part ++ [.notice (meterNotice q) s.part.port.overflow] ∧ q.port.overflow = false) ∧
        (¬ noticeRoom s.part → notices q = notices s.part ∧ q.port.overflow = true) ∧
        Part.changesOnly [.meter, .port] s.part q)) ∧
  (∀ (s : State) (req id : Nat) (o : Offer), portFree s.part = true → s.part.meter.state = .assigned →
    s.part.meter.awarded = some id → findOffer id s.part.offers = some o →
    ∃ q, exec (.jobCancel req) s = .next { s with part := q } ∧ answered req 9 .ok .none s.part q ∧
      q.meter = { s.part.meter with state := .vacant, awarded := none } ∧
      q.offers = s.part.offers.map (fun x => if x.id = id then closedOffer .cancelled none o else x) ∧
      ((notices s.part).length + 2 ≤ 32 →
        noticeBodies q = noticeBodies s.part ++ [closedNotice .cancelled o, meterNotice q]) ∧
      Part.changesOnly [.meter, .queue, .draws, .log, .port, .sign, .offers] s.part q)

/-- SET_CALIBRATION with the calibration-enable line released: LOCKED; with it asserted in a state other than OFF_DUTY:
REFUSED_STATE; in OFF_DUTY with K outside 400 to 60,000: BAD; in each of these nothing but the port changes. Otherwise
the write of K begins and the request stays outstanding without a response. When the write completes, K is the new
value, the calibration event count rises by one up to 65,535, the distance residual of the totals is 0, and OK is
given; nothing else changes. -/
def Obligations.Calibration : Prop :=
  (∀ (s : State) (req k : Nat) (line : Bool), portFree s.part = true →
    (line = false →
      ∃ q, exec (.setCalibration req (some k) line) s = .next { s with part := q } ∧ answered req 10 .locked .none s.part q ∧
        Part.changesOnly [.port, .lines] s.part q) ∧
    (line = true → s.part.meter.state ≠ .offDuty →
      ∃ q, exec (.setCalibration req (some k) line) s = .next { s with part := q } ∧
        answered req 10 .refusedState .none s.part q ∧ Part.changesOnly [.port, .lines] s.part q) ∧
    (line = true → s.part.meter.state = .offDuty → (k < 400 ∨ 60000 < k) →
      ∃ q, exec (.setCalibration req (some k) line) s = .next { s with part := q } ∧ answered req 10 .bad .none s.part q ∧
        Part.changesOnly [.port, .lines] s.part q) ∧
    (line = true → s.part.meter.state = .offDuty → 400 ≤ k → k ≤ 60000 →
      ∃ q, exec (.setCalibration req (some k) line) s = .next { s with part := q } ∧
        q.meter = { s.part.meter with calWrite := some k } ∧
        q.port = { s.part.port with outstanding := some ⟨req, 10, false⟩ } ∧
        Part.changesOnly [.port, .lines, .meter] s.part q)) ∧
  (∀ (s : State) (req k : Nat), s.part.meter.calWrite = some k → s.part.port.outstanding = some ⟨req, 10, false⟩ →
    (responses s.part).length < 4 →
    ∃ q, exec .calibrationWriteComplete s = .next { s with part := q } ∧ answered req 10 .ok .none s.part q ∧
      q.meter = { s.part.meter with k := k, calEvents := min 65535 (s.part.meter.calEvents + 1), calWrite := none } ∧
      q.log = { s.part.log with totals := { s.part.log.totals with distResidual := 0 } } ∧
      Part.changesOnly [.meter, .log, .port] s.part q)

/-- A pulse raises the second count by one up to 65,535 and changes nothing else. At a meter second the time-of-day
advances by a second and wraps at midnight, the silence count rises by one up to 120 and a SYNCED clock whose count
reaches 120 is FREE; the second count is 0 again; the pulses of the second are the count held to floor(K x 70 / 1000),
and a larger count sets SENSOR, and PULSE_CLAMPED in an open trip; the motion is MOVING after a pulse and STOPPED
after the third second without one, and a change of it reaches the message store; total distance advances by the
pulses in units of 100 m, with the residual; vacant distance advances in VACANT and ASSIGNED alone; in HIRED the
plausibility window gains the second and its pulses and starts anew at 60; the age of a fix rises by one up to 255,
the staleness timer by one up to 60, where the stale flag is set and the candidate dropped; the tariff store's last
time read is the new time, a fall by more than 43,200 s lowers the days remaining of a TIMED activation by one if
above 0, and the activation is evaluated. The rest of the time base, the meter (but for its trip), the resolver, the
tariff store, the log, the message store and the management unit stays, and no request is answered. -/
def Obligations.PulsesAndSeconds : Prop :=
  (∀ s : State, ∃ q, exec .distancePulse s = .next { s with part := q } ∧
    q.meter = { s.part.meter with count := min 65535 (s.part.meter.count + 1) } ∧
    Part.changesOnly [.meter] s.part q) ∧
  (∀ (s : State) (pulses : Nat), pulses = min s.part.meter.count (s.part.meter.k * 70 / 1000) →
    ∃ q, exec .meterSecond s = .next { s with part := q } ∧
      q.clock =
        { s.part.clock with
          tod := if 86399 ≤ s.part.clock.tod then 0 else s.part.clock.tod + 1,
          silence := min 120 (s.part.clock.silence + 1),
          state := if s.part.clock.state = .synced ∧ 119 ≤ s.part.clock.silence then .free else s.part.clock.state,
          local_ := max s.part.clock.local_ s.part.clock.secondEnd,
          secondEnd := s.part.clock.secondEnd + (1000000 + s.part.clock.trim).toNat } ∧
      q.meter =
        { s.part.meter with
          count := 0, trip := q.meter.trip, zeroRun := q.meter.zeroRun, motion := q.meter.motion, window := q.meter.window } ∧
      (s.part.meter.state = .hired → s.part.meter.window.seconds < 59 →
        q.meter.window =
          { s.part.meter.window with
            seconds := s.part.meter.window.seconds + 1, pulses := s.part.meter.window.pulses + pulses }) ∧
      (s.part.meter.state = .hired → 59 ≤ s.part.meter.window.seconds → q.meter.window = ⟨0, 0, none, none, 0⟩) ∧
      (s.part.meter.state ≠ .hired → q.meter.window = s.part.meter.window) ∧
      q.zones =
        { s.part.zones with
          age := if s.part.zones.lastFix = none then s.part.zones.age else min 255 (s.part.zones.age + 1),
          timer := if s.part.zones.timer < 60 then s.part.zones.timer + 1 else s.part.zones.timer,
          stale := s.part.zones.stale || decide (s.part.zones.timer = 59),
          cand := if s.part.zones.timer = 59 then none else s.part.zones.cand } ∧
      evaluated
        { s.part.tariff with
          lastTod := some q.clock.tod,
          activation := s.part.tariff.activation.map (fun a =>
            match a.time, s.part.tariff.lastTod with
            | .timed tod days, some l =>
              if q.clock.tod + 43200 < l then { a with time := .timed tod (days - 1) } else a
            | _, _ => a) } q ∧
      q.log =
        { s.part.log with
          totals := { s.part.log.totals with distance := q.log.totals.distance, distResidual := q.log.totals.distResidual },
          shift := q.log.shift } ∧
      (s.part.log.shift = none → q.log.shift = none) ∧
      q.mgmt = { s.part.mgmt with flags := q.mgmt.flags } ∧
      q.msgs = { s.part.msgs with inbox := q.msgs.inbox, motion := q.msgs.motion } ∧
      (q.meter.motion = .moving ∨ q.meter.motion = s.part.meter.motion → q.msgs.inbox = s.part.msgs.inbox) ∧
      answersKept s.part q ∧
      (s.part.meter.k * 70 / 1000 < s.part.meter.count → flagOf q .sensor = true) ∧
      (∀ f, f ≠ .sensor → flagOf q f = flagOf s.part f) ∧
      (∀ t, s.part.meter.trip = some t → ∃ u, q.meter.trip = some u ∧
        u.pulseClamped = (t.pulseClamped || decide (s.part.meter.k * 70 / 1000 < s.part.meter.count))) ∧
      q.meter.zeroRun = (if 0 < pulses then 0 else min 3 (s.part.meter.zeroRun + 1)) ∧
      q.meter.motion =
        (if 0 < pulses then .moving else if s.part.meter.zeroRun = 2 then .stopped else s.part.meter.motion) ∧
      q.msgs.motion = (if q.meter.motion = s.part.meter.motion then s.part.msgs.motion else q.meter.motion) ∧
      q.log.totals.distance =
        (s.part.log.totals.distance + (s.part.log.totals.distResidual + 1000 * pulses) / (100 * s.part.meter.k)) % 100000000 ∧
      q.log.totals.distResidual = (s.part.log.totals.distResidual + 1000 * pulses) % (100 * s.part.meter.k) ∧
      (∀ sh, s.part.log.shift = some sh → s.part.meter.state ≠ .vacant → s.part.meter.state ≠ .assigned →
        q.log.shift = some sh) ∧
      (∀ sh, s.part.log.shift = some sh → (s.part.meter.state = .vacant ∨ s.part.meter.state = .assigned) →
        q.log.shift =
          some
            { sh with
              sums :=
                { sh.sums with
                  vacant := min 99999999 (sh.sums.vacant + (sh.residual + 1000 * pulses) / s.part.meter.k) },
              residual := (sh.residual + 1000 * pulses) % s.part.meter.k }) ∧
      Part.changesOnly [.clock, .meter, .mgmt, .msgs, .port, .log, .zones, .tariff] s.part q)

/-- At a meter second in HIRED with a trip open, the trip's fare is the one before charged for the second's pulses on the
tariff that the ACTIVE image gives the area, the day class and the time as the second leaves them (the area's default
while the clock is UNSET, which sets CLOCK_UNSET), CLOCK_FREE is set on a FREE clock, and a METER notice is placed,
last, exactly when the charged fare changed. In every other state the trip changes in nothing but PULSE_CLAMPED. A
charged second counts one hired second and its pulses, and one waiting second when its distance was worth less than
its time; on the same tariff nothing else follows the drops; another tariff brings its parameters and weights, the
first threshold or Q by whether a drop was made, the progress rescaled by the thresholds, and a usage entry that
begins at the hired seconds counted, appended, or taking the place of the last of six with its drops kept and
USAGE_TRUNCATED set. -/
def Obligations.HiredSecondsAreCharged : Prop :=
  (∀ (s : State) (t : Trip) (pulses n tod : Nat) (clock : ClockState), s.part.meter.state = .hired →
    s.part.meter.trip = some t → pulses = min s.part.meter.count (s.part.meter.k * 70 / 1000) →
    tod = (if 86399 ≤ s.part.clock.tod then 0 else s.part.clock.tod + 1) →
    clock = (if s.part.clock.state = .synced ∧ 119 ≤ s.part.clock.silence then .free else s.part.clock.state) →
    n = bandTariff (activeImage s.part) clock s.part.zones.area s.part.clock.day tod →
    ∃ q u, exec .meterSecond s = .next { s with part := q } ∧ q.meter.trip = some u ∧
      u.fare = chargeSecond (activeImage s.part) n s.part.zones.area s.part.meter.k pulses t.price t.fare ∧
      u.clockUnset = (t.clockUnset || decide (clock = .unset)) ∧ u.clockFree = (t.clockFree || decide (clock = .free)) ∧
      { u with fare := t.fare, clockUnset := t.clockUnset, clockFree := t.clockFree, pulseClamped := t.pulseClamped,
               distanceSuspect := t.distanceSuspect } = t ∧
      (u.fare.charged = t.fare.charged → (∀ m ∈ s.part.msgs.inbox, m.held = false) → notices q = notices s.part) ∧
      (u.fare.charged ≠ t.fare.charged → (notices s.part).length + s.part.msgs.inbox.length < 32 →
        ∃ v, (notices q).getLast? = some (.notice (.meter .hired none (some (meterTripBody u))) v) ∧
          ((∀ m ∈ s.part.msgs.inbox, m.held = false) →
            notices q =
              notices s.part ++ [.notice (.meter .hired none (some (meterTripBody u))) s.part.port.overflow]))) ∧
  (∀ s : State, s.part.meter.state ≠ .hired →
    ∃ q, exec .meterSecond s = .next { s with part := q } ∧
      q.meter.trip =
        s.part.meter.trip.map (fun t =>
          { t with pulseClamped := t.pulseClamped || decide (s.part.meter.k * 70 / 1000 < s.part.meter.count) }) ∧
      ((∀ m ∈ s.part.msgs.inbox, m.held = false) → notices q = notices s.part)) ∧
  (∀ (img : Image) (n area k pulses : Nat) (price : Price) (f d g : Fare), d = chargeDrops pulses f →
    g = chargeSecond img n area k pulses price f →
    g.hiredSeconds = min 16777215 (f.hiredSeconds + 1) ∧ g.hiredPulses = min 4294967295 (f.hiredPulses + pulses) ∧
    g.waitingSeconds =
      (if pulses * f.wp < f.ws then min 16777215 (f.waitingSeconds + 1) else f.waitingSeconds) ∧
    g.metered = d.metered ∧ g.firstDrop = d.firstDrop ∧
    (f.tariff = n →
      g.tariff = n ∧ g.drop = f.drop ∧ g.mode = f.mode ∧ g.wp = f.wp ∧ g.ws = f.ws ∧ g.q = f.q ∧ g.q1 = f.q1 ∧
      g.threshold = d.threshold ∧ g.progress = d.progress ∧ g.usage = d.usage ∧ g.usageTruncated = f.usageTruncated) ∧
    (f.tariff ≠ n → ∀ τ, τ = tariffOf img n →
      g.tariff = τ.number ∧ g.drop = τ.drop ∧ g.mode = τ.mode ∧ g.wp = 1000 * τ.timeStep ∧ g.ws = τ.distStep * k ∧
      g.q = τ.distStep * k * τ.timeStep ∧
      g.q1 = (if 0 < τ.initial then τ.initial * k * τ.timeStep else τ.distStep * k * τ.timeStep) ∧
      g.threshold = (if d.firstDrop then g.q else g.q1) ∧ g.progress = d.progress * g.threshold / d.threshold ∧
      (d.usage.length < 6 → g.usage = d.usage ++ [⟨n, area, 0, g.hiredSeconds⟩]) ∧
      (∀ us u, d.usage = us ++ [u] → 6 ≤ d.usage.length → g.usage = us ++ [⟨n, area, u.drops, g.hiredSeconds⟩]) ∧
      g.usageTruncated = (f.usageTruncated || decide (6 ≤ d.usage.length)))) ∧
  (∀ (img : Image) (area day tod : Nat),
    bandTariff img .unset area day tod = img.defaults.getD area 0 ∧
    bandTariff img .synced area day tod = selectTariff img area day (tod / 60) ∧
    bandTariff img .free area day tod = selectTariff img area day (tod / 60)) ∧
  (∀ (p : Part) (img : Image), (if p.tariff.oneActive then p.tariff.bank1 else p.tariff.bank0).image = some img →
    activeImage p = img)

/-- Where the second makes the moment named, each row is the whole meter second (model's choice, log 9): MOTION_STOPPED,
the third second without a pulse, leaves the motion STOPPED; HELD_MESSAGES_RELEASE, that second with the motion MOVING
and a message held, leaves no message held and, with room in the list, places a MESSAGE notice of each held one in
arrival order; PLAUSIBILITY_EVALUATION, the 60th second of a window in HIRED, starts an empty window and, exactly for
a suspect one (at least two GOOD fixes, 2 x d_f above 3 x d_p + 400 with d_p the pulses x 1000 / K in metres and d_f
ten times the larger plus half the smaller of the two differences), sets SENSOR and DISTANCE_SUSPECT;
STALENESS_TIMEOUT, the timer's 60th second, sets the stale flag and drops the candidate, and keeps zone and area;
CLOCK_FREE_TIMEOUT, the 120th silent second of a SYNCED clock, leaves the clock FREE; ACTIVATION_DUE, where a pending
activation not due is NOW, or TIMED with no midnight left, the clock not UNSET and its time reached (a midnight is a
fall of the time by more than 43,200 s since the last second), sets the due mark; SWAP_BEGIN, where an activation is
due by then, no trip is open and no swap in flight, begins a swap. Where the second does not make the moment, the row
changes nothing. -/
def Obligations.MomentsOfASecond : Prop :=
  let whole (c : Instr) (holds : Part → Prop) (effect : Part → Part → Prop) : Prop :=
    (∀ s : State, holds s.part →
      ∃ q, exec c s = .next { s with part := q } ∧ exec .meterSecond s = .next { s with part := q } ∧ effect s.part q) ∧
    (∀ s : State, ¬ holds s.part → exec c s = .next s)
  let pulses (p : Part) : Nat := min p.meter.count (p.meter.k * 70 / 1000)
  let gap (a b : Nat) : Nat := (a - b) + (b - a)
  let suspect (p : Part) : Prop :=
    ∃ a b, p.meter.window.first = some a ∧ p.meter.window.last = some b ∧ 2 ≤ p.meter.window.fixes ∧
      3 * ((p.meter.window.pulses + pulses p) * 1000 / p.meter.k) + 400 <
        2 * (10 * (max (gap a.1 b.1) (gap a.2 b.2) + min (gap a.1 b.1) (gap a.2 b.2) / 2))
  let todAfter (p : Part) : Nat := if 86399 ≤ p.clock.tod then 0 else p.clock.tod + 1
  let daysAfter (p : Part) (days : Nat) : Nat :=
    match p.tariff.lastTod with
    | none => days
    | some l => if todAfter p + 43200 < l then days - 1 else days
  let timeReached (p : Part) (a : PendingActivation) : Prop :=
    a.time = .now ∨
      ∃ tod days, a.time = .timed tod days ∧ daysAfter p days = 0 ∧ p.clock.state ≠ .unset ∧ tod ≤ todAfter p
  whole .motionStopped (fun p => pulses p = 0 ∧ p.meter.zeroRun = 2)
    (fun _ q => q.meter.motion = .stopped ∧ q.meter.zeroRun = 3) ∧
  whole .heldMessagesRelease
    (fun p => pulses p = 0 ∧ p.meter.zeroRun = 2 ∧ p.meter.motion = .moving ∧ ∃ m ∈ p.msgs.inbox, m.held = true)
    (fun p q => q.msgs.inbox = p.msgs.inbox.map (fun m => { m with held := false }) ∧ q.msgs.motion = .stopped ∧
      ((notices p).length + p.msgs.inbox.length ≤ 32 →
        ∃ rest, (rest = [] ∨ rest = [meterNotice q]) ∧
          ((notices p).length + p.msgs.inbox.length < 32 →
            noticeBodies q =
              noticeBodies p ++ (p.msgs.inbox.filter (fun m => m.held)).map (fun m => .message { m with held := false }) ++ rest) ∧
          ∀ m ∈ p.msgs.inbox, m.held = true → .message { m with held := false } ∈ noticeBodies q)) ∧
  whole .plausibilityEvaluation (fun p => p.meter.state = .hired ∧ p.meter.window.seconds = 59)
    (fun p q => q.meter.window = ⟨0, 0, none, none, 0⟩ ∧
      (flagOf q .sensor = true ↔ flagOf p .sensor = true ∨ p.meter.k * 70 / 1000 < p.meter.count ∨ suspect p) ∧
      ∀ t, p.meter.trip = some t → ∃ u, q.meter.trip = some u ∧
        (u.distanceSuspect = true ↔ t.distanceSuspect = true ∨ suspect p)) ∧
  whole .stalenessTimeout (fun p => p.zones.timer = 59)
    (fun p q => q.zones.stale = true ∧ q.zones.cand = none ∧ q.zones.timer = 60 ∧ q.zones.zone = p.zones.zone ∧
      q.zones.area = p.zones.area) ∧
  whole .clockFreeTimeout (fun p => p.clock.state = .synced ∧ p.clock.silence = 119)
    (fun _ q => q.clock.state = .free ∧ q.clock.silence = 120) ∧
  whole .activationDue (fun p => ∃ a, p.tariff.activation = some a ∧ a.due = false ∧ timeReached p a)
    (fun _ q => ∃ a, q.tariff.activation = some a ∧ a.due = true) ∧
  whole .swapBegin
    (fun p => p.tariff.activity ≠ .swapping ∧
      (p.meter.state = .offDuty ∨ p.meter.state = .vacant ∨ p.meter.state = .assigned) ∧
      ∃ a, p.tariff.activation = some a ∧ (a.due = true ∨ timeReached p a))
    (fun _ q => q.tariff.activity = .swapping)

/-- Among the rows of the area whose day classes hold the day, in table order: when some start at or before the minute,
the tariff is that of the first row of greatest start among those; when rows exist but none starts at or before the
minute, that of the first row of greatest start of all; when there is no row, the default of the area. In an image
that passes the store's checks the tariff selected for an area 0 to 3 is defined. -/
def Obligations.BandSelection : Prop :=
  ∀ (img : Image) (area day tod : Nat) (rows : List BandRow),
    rows = img.bands.filter (fun r => r.area == area && r.days.contains day) →
    ((∃ r ∈ rows, r.start ≤ tod / 60) →
      ∃ (i : Nat) (r : BandRow), rows[i]? = some r ∧ r.start ≤ tod / 60 ∧ selectTariff img area day (tod / 60) = r.tariff ∧
        ∀ (j : Nat) (x : BandRow), rows[j]? = some x → x.start ≤ tod / 60 → x.start ≤ r.start ∧ (x.start = r.start → i ≤ j)) ∧
    (rows ≠ [] → (∀ r ∈ rows, tod / 60 < r.start) →
      ∃ (i : Nat) (r : BandRow), rows[i]? = some r ∧ selectTariff img area day (tod / 60) = r.tariff ∧
        ∀ (j : Nat) (x : BandRow), rows[j]? = some x → x.start ≤ r.start ∧ (x.start = r.start → i ≤ j)) ∧
    (rows = [] → selectTariff img area day (tod / 60) = img.defaults.getD area 0) ∧
    (tablesValid img = true → area ≤ 3 → definesTariff img (selectTariff img area day (tod / 60)) = true)

/-- After a second of p pulses is charged, some number n of drops was made: the progress is below the drop threshold; with
no drop the progress rose by the contribution; with n of at least 1 the progress before plus the contribution is the
progress after plus the first threshold plus n - 1 times Q, and the threshold is Q; the metered fare rose by n drops,
held at 999,999, and SATURATED is set when it was held; the last usage entry counts the n drops. The contribution is
the larger of distance and time in mode S and their sum in mode D. And after the whole charged second, a tariff change
included, the progress is below the threshold. The charged fare is formed from the metered fare, the extras total and
the price: the fixed price, the lesser of metered fare and cap, or the metered fare, plus the extras total, held at
999,999 with SATURATED set. A charged second leaves the extras total, and an EXTRA leaves the metered fare; the
charged fare after both is the same in either order. -/
def Obligations.DropsAccountForProgress : Prop :=
  (∀ (pulses : Nat) (f : Fare), 0 < f.threshold → 0 < f.q → f.metered ≤ 999999 →
    ∃ n, (chargeDrops pulses f).progress < (chargeDrops pulses f).threshold ∧
      (n = 0 →
        (chargeDrops pulses f).progress =
          f.progress + (match f.mode with
            | .single => max (pulses * f.wp) f.ws
            | .double => pulses * f.wp + f.ws) ∧
        (chargeDrops pulses f).threshold = f.threshold ∧ (chargeDrops pulses f).firstDrop = f.firstDrop) ∧
      (0 < n →
        f.progress + (match f.mode with
            | .single => max (pulses * f.wp) f.ws
            | .double => pulses * f.wp + f.ws) =
          (chargeDrops pulses f).progress + f.threshold + (n - 1) * f.q ∧
        (chargeDrops pulses f).threshold = f.q ∧ (chargeDrops pulses f).firstDrop = true) ∧
      (chargeDrops pulses f).metered = min 999999 (f.metered + n * f.drop) ∧
      ((chargeDrops pulses f).saturated = true ↔ f.saturated = true ∨ 999999 < f.metered + n * f.drop) ∧
      (∀ u us, f.usage = us ++ [u] → u.drops ≤ 65535 →
        (chargeDrops pulses f).usage = us ++ [{ u with drops := min 65535 (u.drops + n) }])) ∧
  (∀ (img : Image) (n area k pulses : Nat) (price : Price) (f : Fare), tablesValid img = true →
    definesTariff img n = true → 0 < k → 0 < f.threshold → 0 < f.q →
    (chargeSecond img n area k pulses price f).progress < (chargeSecond img n area k pulses price f).threshold) ∧
  (∀ (price : Price) (f : Fare),
    (formCharged price f).charged =
      min 999999 (match price with
        | .fixed v => v + f.extrasTotal
        | .cap v => min f.metered v + f.extrasTotal
        | .unpriced => f.metered + f.extrasTotal) ∧
    ((formCharged price f).saturated = true ↔ f.saturated = true ∨ 999999 < fareDue price f.metered f.extrasTotal) ∧
    fareDue price f.metered f.extrasTotal =
      (match price with
        | .fixed v => v + f.extrasTotal
        | .cap v => min f.metered v + f.extrasTotal
        | .unpriced => f.metered + f.extrasTotal)) ∧
  (∀ (img : Image) (n area k pulses : Nat) (price : Price) (extras : List (Nat × Nat)) (f : Fare),
    (chargeSecond img n area k pulses price f).extrasTotal = f.extrasTotal ∧
    (reformExtras img extras f).metered = f.metered ∧
    (formCharged price (reformExtras img extras (chargeSecond img n area k pulses price f))).charged =
      (chargeSecond img n area k pulses price (formCharged price (reformExtras img extras f))).charged)

/-- For every zone table and point: when some non-empty entry's rectangle contains the point, all sides inclusive, there
is an index whose entry contains it, no containing entry has a higher layer, no containing entry of a lower index has
the same layer, and the point resolves to that entry's zone; when none contains it, it resolves to 0. -/
def Obligations.ResolveTopmost : Prop :=
  ∀ (table : List (Option ZoneEntry)) (x y : Nat) (inside : ZoneEntry → Prop),
    (∀ e, inside e ↔ e.xMin ≤ x ∧ x ≤ e.xMax ∧ e.yMin ≤ y ∧ y ≤ e.yMax) →
    ((∃ e, some e ∈ table ∧ inside e) →
      ∃ (i : Nat) (e : ZoneEntry), table[i]? = some (some e) ∧ inside e ∧ resolve table x y = e.zone ∧
        ∀ (j : Nat) (d : ZoneEntry), table[j]? = some (some d) → inside d → d.layer ≤ e.layer ∧ (d.layer = e.layer → i ≤ j)) ∧
    ((∀ e, some e ∈ table → ¬ inside e) → resolve table x y = 0)

/-- Zone a is adjacent to zone b exactly when they differ, neither is 0, and some entry of a lists b or some entry of b
lists a. Adjacency is symmetric, zone 0 is adjacent to no zone, and no zone is adjacent to itself. -/
def Obligations.AdjacencyRule : Prop :=
  ∀ (table : List (Option ZoneEntry)) (a b : Nat),
    (adjacent table a b = true ↔
      a ≠ b ∧ a ≠ 0 ∧ b ≠ 0 ∧
        ((∃ e, some e ∈ table ∧ e.zone = a ∧ b ∈ e.adjacency) ∨ (∃ e, some e ∈ table ∧ e.zone = b ∧ a ∈ e.adjacency))) ∧
    adjacent table a b = adjacent table b a ∧ adjacent table 0 b = false ∧ adjacent table a 0 = false ∧
    adjacent table a a = false

/-- POSITION with quality GOOD or COARSE: OK; the last fix, its age, a staleness timer of 0 and a clear stale flag; the
candidate is the zone resolved, and the current zone moves to it exactly when the candidate was already that zone; the
table stays. A GOOD fix in HIRED enters the plausibility window (the first stays, the last is replaced, one more is
counted) and the meter changes in nothing else. A zone that changes while the meter is VACANT has a STATUS of the new
zone in the queue, given room; without that the queue stays. Quality NONE: OK, any other quality: BAD, and nothing but
the port changes. A coordinate above 65,535 or an age above 255 is not of the item's form (the model's reading, log
20): BAD, and no more. The tariff area is evaluated when a fix ends staleness and when the current zone changes: that
of the current zone's first entry, or held in zone 0 and without an entry. LOAD (ZONES) of 1 to 8 entries that passes
the receive path writes each entry as stored (empty with zone 0 or above 250, a side before its opposite, or a layer
or area above 3; else with the first 6 numbers of its adjacency list that are 1 to 250 and not its own, each at its
first place) at its index within the table, keeps the others, drops the candidate, evaluates the area unless the fix
is stale, and changes no other block; with none or more than 8 entries it changes nothing. -/
def Obligations.PositionsAndZones : Prop :=
  let inForm (f : Fix) : Prop := f.x ≤ 65535 ∧ f.y ≤ 65535 ∧ f.age ≤ 255
  let areaFor (table : List (Option ZoneEntry)) (zone held : Nat) : Nat :=
    if zone = 0 then held
    else match (table.filterMap id).find? (fun e => e.zone == zone) with
      | some e => e.area
      | none => held
  (∀ (s : State) (req : Nat) (f : Fix), portFree s.part = true → inForm f →
    (f.quality = .good ∨ f.quality = .coarse) →
    ∃ q, exec (.position req (some f)) s = .next { s with part := q } ∧ answered req 1 .ok .none s.part q ∧
      q.zones.lastFix = some (f.x, f.y) ∧ q.zones.age = f.age ∧ q.zones.timer = 0 ∧ q.zones.stale = false ∧
      q.zones.table = s.part.zones.table ∧ q.zones.cand = some (resolve s.part.zones.table f.x f.y) ∧
      q.zones.zone =
        (if s.part.zones.cand = some (resolve s.part.zones.table f.x f.y) then resolve s.part.zones.table f.x f.y
         else s.part.zones.zone) ∧
      (∀ held, held = (if s.part.zones.stale then areaFor s.part.zones.table s.part.zones.zone s.part.zones.area
          else s.part.zones.area) →
        q.zones.area =
          (if q.zones.zone = s.part.zones.zone then held else areaFor s.part.zones.table q.zones.zone held)) ∧
      (s.part.meter.state = .hired → f.quality = .good →
        q.meter =
          { s.part.meter with
            window :=
              { s.part.meter.window with
                first := some (s.part.meter.window.first.getD (f.x, f.y)), last := some (f.x, f.y),
                fixes := s.part.meter.window.fixes + 1 } }) ∧
      (s.part.meter.state ≠ .hired ∨ f.quality = .coarse → q.meter = s.part.meter) ∧
      (q.zones.zone ≠ s.part.zones.zone → s.part.meter.state = .vacant → statusRoom s.part → statusQueued q) ∧
      (q.zones.zone = s.part.zones.zone ∨ s.part.meter.state ≠ .vacant →
        q.queue = s.part.queue ∧ q.log = s.part.log ∧ q.draws = s.part.draws) ∧
      Part.changesOnly [.zones, .queue, .draws, .log, .meter, .port] s.part q) ∧
  (∀ (s : State) (req : Nat) (f : Fix), portFree s.part = true → inForm f →
    (f.quality = .none ∨ f.quality = .other) →
    ∃ q, exec (.position req (some f)) s = .next { s with part := q } ∧
      answered req 1 (if f.quality = .none then .ok else .bad) .none s.part q ∧ Part.changesOnly [.port] s.part q) ∧
  (∀ (s : State) (req : Nat) (f : Fix), ¬ inForm f → (responses s.part).length < 4 →
    ∃ q, exec (.position req (some f)) s = .next { s with part := q } ∧
      q.port = { s.part.port with outbound := s.part.port.outbound ++ [.response req 1 .bad .none] } ∧
      Part.changesOnly [.port] s.part q) ∧
  (∀ (s : State) (h : AirHeader) (first : Nat) (es : List ZoneEntry), framePasses h s.part = true →
    1 ≤ es.length → es.length ≤ 8 →
    ∃ q, exec (.loadZones h first es) s = .next { s with part := q } ∧ q.zones.cand = none ∧
      q.zones.zone = s.part.zones.zone ∧
      q.zones.area =
        (if s.part.zones.stale then s.part.zones.area
         else areaFor q.zones.table s.part.zones.zone s.part.zones.area) ∧
      q.zones.table.length = s.part.zones.table.length ∧
      (∀ i e, es[i]? = some e → first + i < s.part.zones.table.length → q.zones.table[first + i]? = some (storedZone e)) ∧
      (∀ j, (j < first ∨ first + es.length ≤ j) → q.zones.table[j]? = s.part.zones.table[j]?) ∧
      Part.changesOnly [.zones] s.part q) ∧
  (∀ (s : State) (h : AirHeader) (first : Nat) (es : List ZoneEntry), (es = [] ∨ 8 < es.length) →
    exec (.loadZones h first es) s = .next s) ∧
  (∀ e : ZoneEntry,
    ((e.zone = 0 ∨ 250 < e.zone ∨ e.xMax < e.xMin ∨ e.yMax < e.yMin ∨ 3 < e.layer ∨ 3 < e.area) → storedZone e = none) ∧
    (1 ≤ e.zone → e.zone ≤ 250 → e.xMin ≤ e.xMax → e.yMin ≤ e.yMax → e.layer ≤ 3 → e.area ≤ 3 →
      ∃ adj, storedZone e = some { e with adjacency := adj } ∧ adj.length ≤ 6 ∧
        (∀ n ∈ adj, n ∈ e.adjacency ∧ 1 ≤ n ∧ n ≤ 250 ∧ n ≠ e.zone) ∧
        adj.Pairwise (fun m n => e.adjacency.idxOf m < e.adjacency.idxOf n) ∧
        (∀ n ∈ e.adjacency, 1 ≤ n → n ≤ 250 → n ≠ e.zone → n ∉ adj →
          adj.length = 6 ∧ ∀ m ∈ adj, e.adjacency.idxOf m < e.adjacency.idxOf n)))

/-- A well-formed TEXT whose id no message has, in a store of fewer than 24: filed last as UNREAD with its origin, arrival
time, priority, reply form and text; held exactly when it is NORMAL and the cab moves, and shown by a MESSAGE notice
otherwise. In a full store it is filed last in the place of one message: the first of those READ or REPLIED and
NORMAL, else of those READ or REPLIED and URGENT, else of those UNREAD and NORMAL. A store of 24 messages that are all
URGENT and UNREAD stays as it is and INBOUND_DROPPED is set. A TEXT whose id a message has, or that is not well
formed, changes nothing. What else changes is named. A CANNED form is well formed with 1 to 4 distinct indices up to
31. -/
def Obligations.TextsAreFiled : Prop :=
  let wellFormed (f : TextFrame) (pr : Priority) (form : ReplyForm) : Prop :=
    f.priority = some pr ∧ f.form = some form ∧ f.id ≠ 0 ∧ 1 ≤ f.text.length ∧ f.text.length ≤ 160 ∧ formOk form = true
  let turn (m : Message) : Nat :=
    if m.state = .unread then (if m.priority = .normal then 2 else 3) else (if m.priority = .normal then 0 else 1)
  (∀ (s : State) (h : AirHeader) (f : TextFrame) (pr : Priority) (form : ReplyForm), framePasses h s.part = true →
    wellFormed f pr form → (∀ m ∈ s.part.msgs.inbox, m.id ≠ f.id) → s.part.msgs.inbox.length < 24 → noticeRoom s.part →
    ∃ q m, exec (.text h f) s = .next { s with part := q } ∧ q.msgs = { s.part.msgs with inbox := s.part.msgs.inbox ++ [m] } ∧
      m.id = f.id ∧ m.priority = pr ∧ m.form = form ∧ m.text = f.text ∧ m.state = .unread ∧
      m.arrival = s.part.clock.tod ∧
      m.origin = (match h.kind with | .cab => .base | .all => .all | .group => .group h.addr) ∧
      (m.held = true ↔ pr = .normal ∧ s.part.msgs.motion = .moving) ∧
      notices q =
        (if m.held then notices s.part else notices s.part ++ [.notice (.message m) s.part.port.overflow]) ∧
      Part.changesOnly [.msgs, .port] s.part q) ∧
  (∀ (s : State) (h : AirHeader) (f : TextFrame) (pr : Priority) (form : ReplyForm), framePasses h s.part = true →
    wellFormed f pr form → (∀ m ∈ s.part.msgs.inbox, m.id ≠ f.id) → 24 ≤ s.part.msgs.inbox.length →
    (∀ m ∈ s.part.msgs.inbox, m.priority = .urgent ∧ m.state = .unread) →
    ∃ q, exec (.text h f) s = .next { s with part := q } ∧ flagOf q .inboundDropped = true ∧
      (∀ x, x ≠ .inboundDropped → flagOf q x = flagOf s.part x) ∧ Part.changesOnly [.mgmt] s.part q) ∧
  (∀ (s : State) (h : AirHeader) (f : TextFrame) (pr : Priority) (form : ReplyForm) (before after : List Message)
      (v : Message), framePasses h s.part = true →
    wellFormed f pr form → (∀ m ∈ s.part.msgs.inbox, m.id ≠ f.id) → 24 ≤ s.part.msgs.inbox.length →
    s.part.msgs.inbox = before ++ v :: after → turn v < 3 → (∀ m ∈ before, turn v < turn m) →
    (∀ m ∈ after, turn v ≤ turn m) →
    ∃ q m, exec (.text h f) s = .next { s with part := q } ∧
      q.msgs = { s.part.msgs with inbox := before ++ after ++ [m] } ∧ m.id = f.id ∧ m.priority = pr ∧ m.form = form ∧
      m.text = f.text ∧ m.state = .unread ∧ (m.held = true ↔ pr = .normal ∧ s.part.msgs.motion = .moving) ∧
      Part.changesOnly [.msgs, .port] s.part q) ∧
  (∀ (s : State) (h : AirHeader) (f : TextFrame), (∃ m ∈ s.part.msgs.inbox, m.id = f.id) → exec (.text h f) s = .next s) ∧
  (∀ (s : State) (h : AirHeader) (f : TextFrame), (¬ ∃ pr form, wellFormed f pr form) → exec (.text h f) s = .next s) ∧
  (∀ is : List Nat, formOk .none = true ∧ formOk .ack = true ∧ formOk .yesNo = true ∧
    (formOk (.canned is) = true ↔ 1 ≤ is.length ∧ is.length ≤ 4 ∧ (∀ i ∈ is, i ≤ 31) ∧ is.Nodup))

/-- READ_MESSAGE of an UNREAD message: OK with the message, which is READ and no longer held; an URGENT one queues a READ
RECEIPT with the time, which a full queue drops. Of a READ or REPLIED one: OK with the message, and nothing but the
port changes. REPLY_MESSAGE of a READ message with an answer its form offers: the message is REPLIED, and while the
queue has room the answer is OK and a MESSAGE REPLY stands in the queue; with a queue that is full for its class it is
QUEUE_FULL, with a TEXT_RESULT notice of QUEUE_FULL, and the queue stays. With an answer the form does not offer, or a
message not READ: REFUSED_STATE. An id no message has: NOT_FOUND. No other message changes, and what else changes is
named. ACK offers ACK, YES_NO offers YES and NO, CANNED the indices of its list, NONE nothing. -/
def Obligations.ReadAndReply : Prop :=
  (∀ (s : State) (req id : Nat) (m : Message), portFree s.part = true → findMessage id s.part.msgs.inbox = some m →
    m.state = .unread → (m.priority = .urgent → queueRoom s.part) →
    ∃ q, exec (.readMessage req (some id)) s = .next { s with part := q } ∧
      answered req 13 .ok (.message { m with state := .read, held := false }) s.part q ∧
      q.msgs =
        { s.part.msgs with
          inbox := s.part.msgs.inbox.map (fun x => if x.id = id then { x with state := .read, held := false } else x) } ∧
      (m.priority = .urgent → holdsEntry (.readReceipt id s.part.clock.tod) (some id) .waiting q) ∧
      (m.priority = .normal → q.queue = s.part.queue) ∧
      Part.changesOnly [.msgs, .queue, .draws, .port] s.part q) ∧
  (∀ (s : State) (req id : Nat) (m : Message), portFree s.part = true → findMessage id s.part.msgs.inbox = some m →
    m.state = .unread → m.priority = .urgent → queueFull .routine s.part →
    ∃ q, exec (.readMessage req (some id)) s = .next { s with part := q } ∧
      answered req 13 .ok (.message { m with state := .read, held := false }) s.part q ∧
      q.msgs =
        { s.part.msgs with
          inbox := s.part.msgs.inbox.map (fun x => if x.id = id then { x with state := .read, held := false } else x) } ∧
      Part.changesOnly [.msgs, .port] s.part q) ∧
  (∀ (s : State) (req id : Nat) (m : Message), portFree s.part = true → findMessage id s.part.msgs.inbox = some m →
    m.state ≠ .unread →
    ∃ q, exec (.readMessage req (some id)) s = .next { s with part := q } ∧ answered req 13 .ok (.message m) s.part q ∧
      Part.changesOnly [.port] s.part q) ∧
  (∀ (s : State) (req id : Nat) (a : Answer), portFree s.part = true → (∀ m ∈ s.part.msgs.inbox, m.id ≠ id) →
    (∃ q, exec (.readMessage req (some id)) s = .next { s with part := q } ∧ answered req 13 .notFound .none s.part q ∧
      Part.changesOnly [.port] s.part q) ∧
    (∃ q, exec (.replyMessage req (some (id, a))) s = .next { s with part := q } ∧ answered req 14 .notFound .none s.part q ∧
      Part.changesOnly [.port] s.part q)) ∧
  (∀ (s : State) (req id : Nat) (a : Answer) (m : Message), portFree s.part = true →
    findMessage id s.part.msgs.inbox = some m →
    (m.state = .read → offersAnswer m.form a = true → queueRoom s.part →
      ∃ q, exec (.replyMessage req (some (id, a))) s = .next { s with part := q } ∧ answered req 14 .ok .none s.part q ∧
        q.msgs =
          { s.part.msgs with inbox := s.part.msgs.inbox.map (fun x => if x.id = id then { x with state := .replied } else x) } ∧
        holdsEntry (.messageReply id m.form a) (some id) .waiting q ∧
        Part.changesOnly [.msgs, .queue, .draws, .port] s.part q) ∧
    (m.state = .read → offersAnswer m.form a = true → queueFull .routine s.part → noticeRoom s.part →
      ∃ q, exec (.replyMessage req (some (id, a))) s = .next { s with part := q } ∧
        answered req 14 .queueFull .none s.part q ∧
        q.msgs =
          { s.part.msgs with inbox := s.part.msgs.inbox.map (fun x => if x.id = id then { x with state := .replied } else x) } ∧
        notices q = notices s.part ++ [.notice (.textResult .reply id .queueFull) s.part.port.overflow] ∧
        Part.changesOnly [.msgs, .port] s.part q) ∧
    ((m.state ≠ .read ∨ offersAnswer m.form a = false) →
      ∃ q, exec (.replyMessage req (some (id, a))) s = .next { s with part := q } ∧
        answered req 14 .refusedState .none s.part q ∧ Part.changesOnly [.port] s.part q)) ∧
  (∀ (f : ReplyForm) (a : Answer),
    offersAnswer f a = true ↔
      (f = .ack ∧ a = .ack) ∨ (f = .yesNo ∧ (a = .yes ∨ a = .no)) ∨ ∃ is i, f = .canned is ∧ a = .canned i ∧ i ∈ is)

/-- SEND_CANNED of an index with a text, and SEND_TEXT of 1 to 100 characters while the cab is stopped, take the next
outbound id (65,535 is followed by 1): with room in the queue OK with that id, and a TEXT with it stands in the queue;
with a queue that is full for the class QUEUE_FULL with that id and a TEXT_RESULT notice of QUEUE_FULL, and the queue
stays. An index above 31, an empty or too long text: BAD; an empty index: NOT_FOUND; a text while the cab moves:
MOVING; then nothing but the port changes. What else changes is named. -/
def Obligations.OutboundTexts : Prop :=
  let sent (s : State) (c : Instr) (req item : Nat) (canned : Option Nat) (t : Text) : Prop :=
    ∃ q, exec c s = .next { s with part := q } ∧
      answered req item .ok (.outboundId ((if 65535 ≤ s.part.msgs.outId then 1 else s.part.msgs.outId + 1))) s.part q ∧
      q.msgs = { s.part.msgs with outId := (if 65535 ≤ s.part.msgs.outId then 1 else s.part.msgs.outId + 1) } ∧
      holdsEntry (.text ((if 65535 ≤ s.part.msgs.outId then 1 else s.part.msgs.outId + 1)) canned t) (some ((if 65535 ≤ s.part.msgs.outId then 1 else s.part.msgs.outId + 1))) .waiting q ∧
      Part.changesOnly [.msgs, .queue, .draws, .port] s.part q
  let turnedAway (s : State) (c : Instr) (req item : Nat) : Prop :=
    ∃ q, exec c s = .next { s with part := q } ∧
      answered req item .queueFull (.outboundId ((if 65535 ≤ s.part.msgs.outId then 1 else s.part.msgs.outId + 1))) s.part q ∧
      q.msgs = { s.part.msgs with outId := (if 65535 ≤ s.part.msgs.outId then 1 else s.part.msgs.outId + 1) } ∧
      notices q =
        notices s.part ++ [.notice (.textResult .text ((if 65535 ≤ s.part.msgs.outId then 1 else s.part.msgs.outId + 1)) .queueFull) s.part.port.overflow] ∧
      Part.changesOnly [.msgs, .port] s.part q
  let refused (s : State) (c : Instr) (req item : Nat) (code : RespCode) : Prop :=
    ∃ q, exec c s = .next { s with part := q } ∧ answered req item code .none s.part q ∧ Part.changesOnly [.port] s.part q
  (∀ (s : State) (req i : Nat) (t : Text), portFree s.part = true → i ≤ 31 → s.part.msgs.canned[i]? = some t → t ≠ [] →
    queueRoom s.part → sent s (.sendCanned req (some i)) req 15 (some i) t) ∧
  (∀ (s : State) (req : Nat) (t : Text), portFree s.part = true → 1 ≤ t.length → t.length ≤ 100 →
    s.part.msgs.motion = .stopped → queueRoom s.part → sent s (.sendText req (some t)) req 16 none t) ∧
  (∀ (s : State) (req i : Nat), portFree s.part = true → 31 < i →
    refused s (.sendCanned req (some i)) req 15 .bad) ∧
  (∀ (s : State) (req i : Nat), portFree s.part = true → i ≤ 31 → s.part.msgs.canned[i]? = some [] →
    refused s (.sendCanned req (some i)) req 15 .notFound) ∧
  (∀ (s : State) (req : Nat) (t : Text), portFree s.part = true → (t = [] ∨ 100 < t.length) →
    refused s (.sendText req (some t)) req 16 .bad) ∧
  (∀ (s : State) (req : Nat) (t : Text), portFree s.part = true → 1 ≤ t.length → t.length ≤ 100 →
    s.part.msgs.motion = .moving → refused s (.sendText req (some t)) req 16 .moving) ∧
  (∀ (s : State) (req i : Nat) (t : Text), portFree s.part = true → i ≤ 31 → s.part.msgs.canned[i]? = some t → t ≠ [] →
    queueFull .routine s.part → noticeRoom s.part → turnedAway s (.sendCanned req (some i)) req 15) ∧
  (∀ (s : State) (req : Nat) (t : Text), portFree s.part = true → 1 ≤ t.length → t.length ≤ 100 →
    s.part.msgs.motion = .stopped → queueFull .routine s.part → noticeRoom s.part →
    turnedAway s (.sendText req (some t)) req 16)

/-- A well-formed new OFFER that is eligible, with a table of fewer than 8: placed last, PRESENTED, with the frame's
fields, and shown by an OFFER notice. With 8 entries: it takes the place of the oldest CLOSED one; with none CLOSED it
is dropped and INBOUND_DROPPED set. A new one that is not eligible, and a malformed one, changes nothing. A repeat of
an id in the table moves that entry's deadline when its own is later and changes nothing else of the entry; of a
PRESENTED one an OFFER_STATE notice then carries the new deadline. Eligible is an offer exactly when the meter is
VACANT, the emergency state IDLE, the cab has every attribute asked for, the deadline has not passed and, for a ZONE
offer, the fix is not stale and the cab's zone, not 0, is in the list or, where that is allowed, adjacent to one of
it. Well formed is an OFFER exactly with an id, 1 to 4 zones of 1 to 250 when it is a ZONE offer, addressed CAB when
it is DIRECT, a pickup zone up to 250, a price up to 999,999 and a note of at most 40 characters. A cycle is later
than another when it lies 1 to 2,047 past it modulo 4,096, and a deadline has passed at that cycle or a later one.
What else changes is named. -/
def Obligations.OffersArePresented : Prop :=
  let shown (f : OfferFrame) (o : Offer) : Prop :=
    o.id = f.id ∧ o.kind = f.kind ∧ o.pickup = f.pickup ∧ o.attrs = f.attrs ∧ o.jobClass = some f.jobClass ∧
    o.price = f.price ∧ o.note = f.note ∧ o.deadline = f.deadline ∧ o.state = .presented ∧ o.closeReason = none ∧
    o.jobId = none ∧ o.zones = (if f.kind = .zone then f.zones else []) ∧ o.adjacentAllowed = f.adjacentAllowed ∧
    o.withdrawReason = none
  let fresh (s : State) (h : AirHeader) (f : OfferFrame) : Prop :=
    framePasses h s.part = true ∧ offerOk h f = true ∧ (∀ o ∈ s.part.offers, o.id ≠ f.id)
  (∀ (s : State) (h : AirHeader) (f : OfferFrame), fresh s h f → eligible f s.part = true → s.part.offers.length < 8 →
    noticeRoom s.part →
    ∃ q o, exec (.offer h f) s = .next { s with part := q } ∧ shown f o ∧ q.offers = s.part.offers ++ [o] ∧
      notices q =
        notices s.part ++
          [.notice
            (.offer
              { id := f.id, kind := f.kind, pickup := f.pickup, jobClass := some f.jobClass, price := f.price, note := f.note,
                deadline := f.deadline, state := .presented }) s.part.port.overflow] ∧
      Part.changesOnly [.offers, .port] s.part q) ∧
  (∀ (s : State) (h : AirHeader) (f : OfferFrame) (before after : List Offer) (c : Offer), fresh s h f →
    eligible f s.part = true → 8 ≤ s.part.offers.length → s.part.offers = before ++ c :: after → c.state = .closed →
    (∀ o ∈ before, o.state ≠ .closed) →
    ∃ q o, exec (.offer h f) s = .next { s with part := q } ∧ shown f o ∧ q.offers = before ++ after ++ [o] ∧
      (noticeRoom s.part →
        notices q =
          notices s.part ++
            [.notice
              (.offer
                { id := f.id, kind := f.kind, pickup := f.pickup, jobClass := some f.jobClass, price := f.price,
                  note := f.note, deadline := f.deadline, state := .presented }) s.part.port.overflow]) ∧
      Part.changesOnly [.offers, .port] s.part q) ∧
  (∀ (s : State) (h : AirHeader) (f : OfferFrame), fresh s h f → eligible f s.part = true →
    8 ≤ s.part.offers.length → (∀ o ∈ s.part.offers, o.state ≠ .closed) →
    ∃ q, exec (.offer h f) s = .next { s with part := q } ∧ flagOf q .inboundDropped = true ∧
      (∀ x, x ≠ .inboundDropped → flagOf q x = flagOf s.part x) ∧
      Part.changesOnly [.mgmt] s.part q) ∧
  (∀ (s : State) (h : AirHeader) (f : OfferFrame), fresh s h f → eligible f s.part = false →
    exec (.offer h f) s = .next s) ∧
  (∀ (s : State) (h : AirHeader) (f : OfferFrame), offerOk h f = false → exec (.offer h f) s = .next s) ∧
  (∀ (s : State) (h : AirHeader) (f : OfferFrame) (o : Offer), framePasses h s.part = true → offerOk h f = true →
    findOffer f.id s.part.offers = some o →
    ∃ q, exec (.offer h f) s = .next { s with part := q } ∧
      q.offers =
        (if cycleLater f.deadline o.deadline then
          s.part.offers.map (fun x => if x.id = f.id then { o with deadline := f.deadline } else x) else s.part.offers) ∧
      (cycleLater f.deadline o.deadline = true → o.state = .presented → noticeRoom s.part →
        ∃ b, notices q = notices s.part ++ [.notice (.offerState b) s.part.port.overflow] ∧ b.id = f.id ∧
          b.state = .presented ∧ b.newDeadline = some f.deadline ∧ b.bidNotSent = false ∧ b.award = none) ∧
      (cycleLater f.deadline o.deadline = false ∨ o.state ≠ .presented → q.port = s.part.port) ∧
      Part.changesOnly [.offers, .port] s.part q) ∧
  (∀ (f : OfferFrame) (p : Part),
    eligible f p = true ↔
      p.meter.state = .vacant ∧ p.emg.state = .idle ∧ f.attrs &&& p.mgmt.identity.attrs = f.attrs ∧
      cyclePassed p.ctl.cycle f.deadline = false ∧
      (f.kind = .zone →
        p.zones.stale = false ∧ p.zones.zone ≠ 0 ∧
        (p.zones.zone ∈ f.zones ∨
          (f.adjacentAllowed = true ∧ ∃ z ∈ f.zones, adjacent p.zones.table p.zones.zone z = true)))) ∧
  (∀ (h : AirHeader) (f : OfferFrame),
    offerOk h f = true ↔
      f.id ≠ 0 ∧ (f.kind = .zone → 1 ≤ f.zones.length ∧ f.zones.length ≤ 4 ∧ ∀ z ∈ f.zones, 1 ≤ z ∧ z ≤ 250) ∧
      (f.kind = .direct → h.kind = .cab) ∧ f.pickup ≤ 250 ∧
      (∀ v, f.price = .fixed v ∨ f.price = .cap v → v ≤ 999999) ∧ f.note.length ≤ 40) ∧
  (∀ a b : Nat, a < 4096 → b < 4096 →
    (cycleLater a b = true ↔ 1 ≤ (a + 4096 - b) % 4096 ∧ (a + 4096 - b) % 4096 ≤ 2047) ∧
    (cyclePassed a b = true ↔ (a + 4096 - b) % 4096 ≤ 2047))

/-- ACCEPT of a PRESENTED offer whose deadline has not passed, with no other bid pending: with room in the queue OK, the
entry is ACCEPTED, and a WAITING BID with the zone, stale flag and fix age of the event stands in the queue, to expire
at the offer's deadline, and an OFFER_STATE notice says ACCEPTED, after the LINK notice of a wake; with a queue that
is full for the class QUEUE_FULL, the entry stays PRESENTED and nothing but the port changes. An id absent or CLOSED:
GONE; a PRESENTED offer past its deadline: GONE, and it closes with EXPIRED, which an OFFER_STATE notice says; another
entry ACCEPTED or BID_SENT: BUSY_BID; an entry itself past PRESENTED: REFUSED_STATE. What else changes is named. -/
def Obligations.AcceptPlacesBid : Prop :=
  (∀ (s : State) (req id : Nat) (o : Offer), portFree s.part = true → findOffer id s.part.offers = some o →
    o.state = .presented → cyclePassed s.part.ctl.cycle o.deadline = false →
    (∀ x ∈ s.part.offers, x.id ≠ id → x.state ≠ .accepted ∧ x.state ≠ .bidSent) → queueRoom s.part →
    ∃ q, exec (.accept req (some id)) s = .next { s with part := q } ∧ answered req 11 .ok .none s.part q ∧
      q.offers = s.part.offers.map (fun x => if x.id = id then { o with state := .accepted } else x) ∧
      (∃ e ∈ q.queue.entries, e.source = some id ∧ e.st = .waiting ∧ e.expiry = some o.deadline ∧ e.attempts = 0 ∧
        e.body = .bid id s.part.zones.zone s.part.zones.stale (reportedAge s.part)) ∧
      ((notices s.part).length + 2 ≤ 32 →
        noticeBodies q =
          noticeBodies s.part ++ (if s.part.ctl.acq = .parked then [.link .holdover s.part.ctl.cycle] else []) ++
            [.offerState
              { id := id, state := .accepted,
                reason := o.closeReason.map (fun r => if r = .suppressed then .expired else r), newDeadline := none,
                withdrawReason := o.withdrawReason, bidNotSent := false, award := none }]) ∧
      Part.changesOnly [.queue, .draws, .ctl, .port, .offers] s.part q) ∧
  (∀ (s : State) (req id : Nat) (o : Offer), portFree s.part = true → findOffer id s.part.offers = some o →
    o.state = .presented → cyclePassed s.part.ctl.cycle o.deadline = false →
    (∀ x ∈ s.part.offers, x.id ≠ id → x.state ≠ .accepted ∧ x.state ≠ .bidSent) → queueFull .urgent s.part →
    ∃ q, exec (.accept req (some id)) s = .next { s with part := q } ∧ answered req 11 .queueFull .none s.part q ∧
      notices q = notices s.part ∧ Part.changesOnly [.port] s.part q) ∧
  (∀ (s : State) (req id : Nat), portFree s.part = true →
    (∀ o, findOffer id s.part.offers = some o → o.state = .closed) →
    ∃ q, exec (.accept req (some id)) s = .next { s with part := q } ∧ answered req 11 .gone .none s.part q ∧
      Part.changesOnly [.port] s.part q) ∧
  (∀ (s : State) (req id : Nat) (o : Offer), portFree s.part = true → findOffer id s.part.offers = some o →
    (o.state = .presented → cyclePassed s.part.ctl.cycle o.deadline = true →
      ∃ q, exec (.accept req (some id)) s = .next { s with part := q } ∧ answered req 11 .gone .none s.part q ∧
        q.offers = s.part.offers.map (fun x => if x.id = id then closedOffer .expired none o else x) ∧
        (noticeRoom s.part → noticeBodies q = noticeBodies s.part ++ [closedNotice .expired o]) ∧
        Part.changesOnly [.offers, .port] s.part q) ∧
    (o.state ≠ .closed → ¬ (o.state = .presented ∧ cyclePassed s.part.ctl.cycle o.deadline = true) →
      (∃ x ∈ s.part.offers, x.id ≠ id ∧ (x.state = .accepted ∨ x.state = .bidSent)) →
      ∃ q, exec (.accept req (some id)) s = .next { s with part := q } ∧ answered req 11 .busyBid .none s.part q ∧
        Part.changesOnly [.port] s.part q) ∧
    ((o.state = .accepted ∨ o.state = .bidSent ∨ o.state = .awarded) →
      (∀ x ∈ s.part.offers, x.id ≠ id → x.state ≠ .accepted ∧ x.state ≠ .bidSent) →
      ∃ q, exec (.accept req (some id)) s = .next { s with part := q } ∧ answered req 11 .refusedState .none s.part q ∧
        Part.changesOnly [.port] s.part q))

/-- DECLINE of a PRESENTED entry: OK, the entry is CLOSED with DECLINED, an OFFER_STATE notice of it is placed, and
nothing is sent uplink: only the offers and the port change. Of an ACCEPTED, BID_SENT or AWARDED entry: REFUSED_STATE;
of an absent or CLOSED one: GONE; then only the port changes. -/
def Obligations.DeclineRule : Prop :=
  (∀ (s : State) (req id : Nat) (o : Offer), portFree s.part = true → noticeRoom s.part →
    findOffer id s.part.offers = some o → o.state = .presented →
    ∃ q b, exec (.decline req (some id)) s = .next { s with part := q } ∧ answered req 12 .ok .none s.part q ∧
      q.offers = s.part.offers.map (fun x => if x.id = id then closedOffer .declined none o else x) ∧
      notices q = notices s.part ++ [.notice (.offerState b) s.part.port.overflow] ∧ b.id = id ∧ b.state = .closed ∧
      b.reason = some .declined ∧ Part.changesOnly [.offers, .port] s.part q) ∧
  (∀ (s : State) (req id : Nat) (o : Offer), portFree s.part = true → findOffer id s.part.offers = some o →
    (o.state = .accepted ∨ o.state = .bidSent ∨ o.state = .awarded) →
    ∃ q, exec (.decline req (some id)) s = .next { s with part := q } ∧ answered req 12 .refusedState .none s.part q ∧
      Part.changesOnly [.port] s.part q) ∧
  (∀ (s : State) (req id : Nat), portFree s.part = true →
    (∀ o, findOffer id s.part.offers = some o → o.state = .closed) →
    ∃ q, exec (.decline req (some id)) s = .next { s with part := q } ∧ answered req 12 .gone .none s.part q ∧
      Part.changesOnly [.port] s.part q)

/-- At a signalled cycle start taken for deadlines, every PRESENTED entry whose deadline has passed closes with EXPIRED,
and so does every ACCEPTED one whose BID is not SENT (a BID marked WITHDRAWN is left out of account: the model's
choice, log 32); the others stay. At one taken for award waits, every BID_SENT entry closes with LOST once the cycle
10 after its deadline has passed; each closing places an OFFER_STATE notice with its reason, in table order. WITHDRAW
with a known reason closes a PRESENTED or ACCEPTED entry with WITHDRAWN and a BID_SENT one with LOST, with the reason
in the entry and in its OFFER_STATE notice; an AWARDED one closes with WITHDRAWN and the meter goes from ASSIGNED to
VACANT. A CLOSED or absent one, and an unknown reason, change nothing. That each signal is taken once, and that a row
without its signal changes nothing, is the model's choice (log 10). What else changes is named. -/
def Obligations.OffersCloseInTime : Prop :=
  let overdue (p : Part) (o : Offer) : Bool :=
    cyclePassed p.ctl.cycle o.deadline &&
      (decide (o.state = .presented) ||
        (decide (o.state = .accepted) && !(p.queue.entries.find? (fun e =>
          decide (kindOf e.body = .bid) && decide (e.source = some o.id) && decide (e.mark ≠ some .withdrawn))).any
          (fun e => decide (e.st = .sent))))
  let unanswered (p : Part) (o : Offer) : Bool :=
    decide (o.state = .bidSent) && cyclePassed p.ctl.cycle ((o.deadline + 10) % 4096)
  (∀ s : State, s.part.sig.deadlines = true → offersDistinct s.part →
    ∃ q, exec .offerDeadline s = .next { s with part := q } ∧
      q.offers = closedWhere (overdue s.part) .expired s.part.offers ∧
      ((notices s.part).length + s.part.offers.length ≤ 32 →
        noticeBodies q = noticeBodies s.part ++ (s.part.offers.filter (overdue s.part)).map (closedNotice .expired)) ∧
      q.sig = { s.part.sig with deadlines := false } ∧ Part.changesOnly [.sig, .queue, .offers, .port] s.part q) ∧
  (∀ s : State, s.part.sig.awardWaits = true → offersDistinct s.part →
    ∃ q, exec .awardWaitEnd s = .next { s with part := q } ∧
      q.offers = closedWhere (unanswered s.part) .lost s.part.offers ∧
      ((notices s.part).length + s.part.offers.length ≤ 32 →
        noticeBodies q = noticeBodies s.part ++ (s.part.offers.filter (unanswered s.part)).map (closedNotice .lost)) ∧
      q.sig = { s.part.sig with awardWaits := false } ∧ Part.changesOnly [.sig, .offers, .port] s.part q) ∧
  (∀ s : State, s.part.sig.deadlines = false → exec .offerDeadline s = .next s) ∧
  (∀ s : State, s.part.sig.awardWaits = false → exec .awardWaitEnd s = .next s) ∧
  (∀ (s : State) (h : AirHeader) (id : Nat) (r : WithdrawReason) (o : Offer), framePasses h s.part = true →
    findOffer id s.part.offers = some o →
    (o.state ≠ .closed →
      ∃ q, exec (.withdraw h id (some r)) s = .next { s with part := q } ∧
        q.offers =
          s.part.offers.map (fun x =>
            if x.id = id then closedOffer (if o.state = .bidSent then .lost else .withdrawn) (some r) o else x) ∧
        (noticeRoom s.part →
          (.offerState
            { id := o.id, state := .closed, reason := some (if o.state = .bidSent then .lost else .withdrawn),
              newDeadline := none, withdrawReason := some r, bidNotSent := false, award := none }) ∈ noticeBodies q) ∧
        (o.state = .awarded → s.part.meter.state = .assigned →
          q.meter = { s.part.meter with state := .vacant, awarded := none }) ∧
        (o.state ≠ .awarded → Part.changesOnly [.offers, .queue, .port] s.part q) ∧
        Part.changesOnly [.offers, .meter, .queue, .draws, .log, .port, .sign] s.part q) ∧
    (o.state = .closed → exec (.withdraw h id (some r)) s = .next s)) ∧
  (∀ (s : State) (h : AirHeader) (id : Nat) (r : Option WithdrawReason),
    (r = none ∨ ∀ o ∈ s.part.offers, o.id ≠ id) → exec (.withdraw h id r) s = .next s)

/-- A removal of the entries of a kind and a source: those not SENT leave the queue at once, a SENT one gets the mark
WITHDRAWN, every other stays, and nothing is reported, faulted or otherwise changed. An ACCEPTED offer that closes by
a WITHDRAW or at a deadline, by the HIRE or the OFF_DUTY of a VACANT cab, or by an AWARD, and one that the AWARD
itself names, has its BID removed so: after the event a BID of it is SENT and WITHDRAWN, or gone. A WITHDRAW of an
ACCEPTED offer changes nothing else in the queue, and of a PRESENTED or BID_SENT one nothing at all; at a deadline no
entry is added and none but a BID changes. An OFF_DUTY that finds the summary QUEUED removes its entry in the same way
before the new summary is offered. -/
def Obligations.ClosedOffersGiveUpBids : Prop :=
  (∀ (k : Kind) (source : Option Nat) (p : Part),
    (removeEntry k source p).queue =
      { p.queue with
        entries := p.queue.entries.filterMap (fun e =>
          if kindOf e.body = k ∧ e.source = source then
            (if e.st = .sent then some { e with mark := some .withdrawn } else none)
          else some e) } ∧
    Part.changesOnly [.queue] p (removeEntry k source p)) ∧
  (∀ (s : State) (h : AirHeader) (id : Nat) (r : WithdrawReason) (o : Offer), framePasses h s.part = true →
    findOffer id s.part.offers = some o →
    ∃ q, exec (.withdraw h id (some r)) s = .next { s with part := q } ∧
      (o.state = .accepted → q.queue = (removeEntry .bid (some id) s.part).queue ∧ bidGivenUp id s.part q) ∧
      (o.state = .presented ∨ o.state = .bidSent → q.queue = s.part.queue)) ∧
  (∀ s : State, s.part.sig.deadlines = true → offersDistinct s.part →
    ∃ q, exec .offerDeadline s = .next { s with part := q } ∧
      q.queue = { s.part.queue with entries := q.queue.entries } ∧
      (∀ x ∈ q.queue.entries, ∃ e ∈ s.part.queue.entries, x = e ∨ (kindOf e.body = .bid ∧ x = { e with mark := some .withdrawn })) ∧
      (∀ e ∈ s.part.queue.entries, kindOf e.body ≠ .bid → e ∈ q.queue.entries) ∧
      (∀ o e, o ∈ s.part.offers → o.state = .accepted → cyclePassed s.part.ctl.cycle o.deadline = true →
        bidEntry o.id s.part = some e → e.st ≠ .sent → bidGivenUp o.id s.part q) ∧
      (∀ o e, o ∈ s.part.offers → o.state = .accepted → bidEntry o.id s.part = some e →
        (cyclePassed s.part.ctl.cycle o.deadline = false ∨ e.st = .sent) →
        e ∈ q.queue.entries)) ∧
  (∀ (s : State) (c : Instr) (req : Nat), s.part.port.outstanding = none → s.part.meter.state = .vacant →
    ((c = .hire req ∧ s.part.tariff.activity ≠ .swapping) ∨ c = .offDuty req) → tagsDistinct s.part →
    ∃ q, exec c s = .next { s with part := q } ∧
      ∀ o ∈ s.part.offers, o.state = .accepted → bidGivenUp o.id s.part q) ∧
  (∀ (s : State) (h : AirHeader) (f : AwardFrame) (pr : Price), framePasses h s.part = true → awardPrice f = some pr →
    s.part.meter.state = .vacant → offersDistinct s.part → tagsDistinct s.part →
    ∃ q, exec (.award h f) s = .next { s with part := q } ∧
      ∀ o ∈ s.part.offers, o.state = .accepted → bidGivenUp o.id s.part q) ∧
  (∀ (s : State) (req : Nat) (sh : Shift) (v : ShiftSummary), s.part.port.outstanding = none →
    s.part.meter.state = .vacant → s.part.log.shift = some sh → s.part.log.summary = some (v, .queued) →
    tagsDistinct s.part →
    ∃ q, exec (.offDuty req) s = .next { s with part := q } ∧
      (∀ x ∈ q.queue.entries, kindOf x.body = .shiftSummary → x.source = none →
        (x.st = .sent ∧ x.mark = some .withdrawn) ∨
          x.body = .shiftSummary ⟨sh.number, sh.startTod, sh.startDay, s.part.clock.tod, sh.sums⟩) ∧
      (∀ e ∈ s.part.queue.entries, kindOf e.body = .shiftSummary → e.source = none → e.st = .sent →
        { e with mark := some .withdrawn } ∈ q.queue.entries))

/-- A well-formed AWARD that finds the meter VACANT: the meter is ASSIGNED with the award's id; an entry of that id is
AWARDED with the award's job id, pickup and price (and its note unless empty); every other open entry is closed, a
PRESENTED one with CANCELLED and the others with LOST; a job the table does not know gets an entry of its own, last,
and with 8 entries the oldest CLOSED one, once the open ones are closed, makes room. With room in the list the notices
are, in order, an OFFER_STATE of each entry that closes, that of the awarded one with job id, pickup, price and note,
and the METER notice. One that finds the meter in another state and no AWARDED entry of its id: an AWARD DECLINE with
the meter state stands in the queue, given room; an entry of the id in the table closes with LOST, and an id the table
does not know leaves a CLOSED entry with LOST and the job id, for which the oldest CLOSED one of 8 makes room, and
none when none is CLOSED; a notice says LOST (that it has none of the award's items is the model's choice, log 44);
the meter is unchanged. One that repeats the AWARDED entry's id in any state but VACANT, and a malformed one, change
nothing: malformed is one of no known price mode, id 0, a price above 999,999 or a note above 40 characters (that its
pickup is not checked is the model's choice, log 43). -/
def Obligations.AwardsAssignOrAreDeclined : Prop :=
  (∀ (s : State) (h : AirHeader) (f : AwardFrame) (pr : Price), framePasses h s.part = true → awardPrice f = some pr →
    s.part.meter.state = .vacant → offersDistinct s.part →
    ((∃ o ∈ s.part.offers, o.id = f.id) ∨ s.part.offers.length < 8) →
    ∃ q, exec (.award h f) s = .next { s with part := q } ∧
      q.meter = { s.part.meter with state := .assigned, awarded := some f.id } ∧
      (∃ o ∈ q.offers, o.id = f.id ∧ o.state = .awarded ∧ o.jobId = some f.jobId ∧ o.pickup = f.pickup ∧ o.price = pr ∧
        o.closeReason = none ∧ (f.note ≠ [] → o.note = f.note)) ∧
      (∀ o ∈ q.offers, o.id ≠ f.id → o.state = .closed ∨ o.state = .awarded) ∧
      (∀ o ∈ s.part.offers, o.id ≠ f.id → openOffer o = true →
        closedOffer (if o.state = .presented then .cancelled else .lost) none o ∈ q.offers) ∧
      ((notices s.part).length + s.part.offers.length + 2 ≤ 32 →
        ∃ w n, noticeBodies q =
          noticeBodies s.part ++
            (s.part.offers.filter (fun o => o.id != f.id && openOffer o)).map (fun o =>
              .offerState
                { id := o.id, state := .closed, reason := some (if o.state = .presented then .cancelled else .lost),
                  newDeadline := none, withdrawReason := none, bidNotSent := false, award := none }) ++
            [.offerState
              { id := f.id, state := .awarded, reason := none, newDeadline := none, withdrawReason := w, bidNotSent := false,
                award := some (some f.jobId, f.pickup, pr, n) },
              meterNotice q] ∧ w = none ∧ (f.note ≠ [] → n = f.note)) ∧
      Part.changesOnly [.offers, .meter, .queue, .draws, .log, .port, .sign] s.part q) ∧
  (∀ (s : State) (h : AirHeader) (f : AwardFrame) (pr : Price) (closed : List Offer), framePasses h s.part = true →
    awardPrice f = some pr → s.part.meter.state = .vacant → offersDistinct s.part →
    (∀ o ∈ s.part.offers, o.id ≠ f.id ∧ o.state ≠ .awarded) →
    closed =
      s.part.offers.map (fun o =>
        if openOffer o then closedOffer (if o.state = .presented then .cancelled else .lost) none o else o) →
    ∃ q o, exec (.award h f) s = .next { s with part := q } ∧
      q.offers = (if 8 ≤ s.part.offers.length then closed.drop 1 else closed) ++ [o] ∧ o.id = f.id ∧
      o.state = .awarded ∧ o.jobId = some f.jobId ∧ o.pickup = f.pickup ∧ o.price = pr ∧ o.note = f.note ∧
      o.closeReason = none ∧
      ((notices s.part).length + s.part.offers.length + 2 ≤ 32 →
        ∃ w n, noticeBodies q =
          noticeBodies s.part ++
            (s.part.offers.filter (fun o => o.id != f.id && openOffer o)).map (fun o =>
              .offerState
                { id := o.id, state := .closed, reason := some (if o.state = .presented then .cancelled else .lost),
                  newDeadline := none, withdrawReason := none, bidNotSent := false, award := none }) ++
            [.offerState
              { id := f.id, state := .awarded, reason := none, newDeadline := none, withdrawReason := w, bidNotSent := false,
                award := some (some f.jobId, f.pickup, pr, n) },
              meterNotice q] ∧ w = none ∧ (f.note ≠ [] → n = f.note)) ∧
      q.meter = { s.part.meter with state := .assigned, awarded := some f.id }) ∧
  (∀ (s : State) (h : AirHeader) (f : AwardFrame) (pr : Price), framePasses h s.part = true → awardPrice f = some pr →
    s.part.meter.state ≠ .vacant → (∀ o ∈ s.part.offers, o.id ≠ f.id) → (queueRoom s.part ∨ queueFull .urgent s.part) →
    ∃ q o, exec (.award h f) s = .next { s with part := q } ∧ o.id = f.id ∧ o.state = .closed ∧
      o.closeReason = some .lost ∧ o.jobId = some f.jobId ∧
      (s.part.offers.length < 8 → q.offers = s.part.offers ++ [o]) ∧
      (∀ before after c, 8 ≤ s.part.offers.length → s.part.offers = before ++ c :: after → c.state = .closed →
        (∀ x ∈ before, x.state ≠ .closed) → q.offers = before ++ after ++ [o]) ∧
      (8 ≤ s.part.offers.length → (∀ x ∈ s.part.offers, x.state ≠ .closed) → q.offers = s.part.offers) ∧
      (queueFull .urgent s.part → q.queue = s.part.queue) ∧
      (s.part.offers.length < 8 ∨ (∃ x ∈ s.part.offers, x.state = .closed) → noticeRoom s.part →
        noticeBodies q = noticeBodies s.part ++
          [.offerState
            { id := f.id, state := .closed, reason := some .lost, newDeadline := none, withdrawReason := none, bidNotSent := false,
              award := none }]) ∧
      q.meter = s.part.meter) ∧
  (∀ (s : State) (h : AirHeader) (f : AwardFrame) (pr : Price), framePasses h s.part = true → awardPrice f = some pr →
    s.part.meter.state ≠ .vacant → (∀ o ∈ s.part.offers, o.id = f.id → o.state ≠ .awarded) → queueRoom s.part →
    ∃ q, exec (.award h f) s = .next { s with part := q } ∧
      holdsEntry (.awardDecline f.id f.jobId s.part.meter.state) (some f.id) .waiting q ∧
      (∀ o, findOffer f.id s.part.offers = some o →
        q.offers =
          s.part.offers.map (fun x =>
            if x.id = f.id then { closedOffer .lost none o with jobId := some f.jobId } else x) ∧
        (noticeRoom s.part → noticeBodies q = noticeBodies s.part ++
          [.offerState
            { id := f.id, state := .closed, reason := some .lost, newDeadline := none, withdrawReason := none, bidNotSent := false,
              award := none }])) ∧
      Part.changesOnly [.queue, .draws, .ctl, .port, .offers] s.part q) ∧
  (∀ (s : State) (h : AirHeader) (f : AwardFrame), s.part.meter.state ≠ .vacant →
    (∃ o ∈ s.part.offers, o.id = f.id ∧ o.state = .awarded) → exec (.award h f) s = .next s) ∧
  (∀ (s : State) (h : AirHeader) (f : AwardFrame), awardPrice f = none → exec (.award h f) s = .next s) ∧
  (∀ f : AwardFrame,
    (awardPrice f = none ↔
      f.price = none ∨ f.id = 0 ∨ (∃ v, (f.price = some (.fixed v) ∨ f.price = some (.cap v)) ∧ 999999 < v) ∨ 40 < f.note.length) ∧
    (∀ pr, awardPrice f = some pr → f.price = some pr))

/-- TARIFF BEGIN with version 1 to 65,535 and 1 to 32 pages, no swap in flight: the clear begins, every page is missing,
no activation is pending, the buffer is free; with other values LOAD_ERROR is set and nothing else changes.
CLEAR_COMPLETE of a clear: LOADING, a STAGING bank without data, the buffer as it was. TARIFF PAGE of the version
under load with a missing index, the buffer free: the page is held and its write begins; of a page already present:
the same bytes change nothing, other bytes set LOAD_ERROR and make the index missing again; while the buffer is taken,
in another staging state, of another version or past the count, nothing. PAGE_WRITE_COMPLETE: the page stands in the
STAGING bank and is missing no more; when none is missing the image is checked: STAGED, or REJECTED with LOAD_ERROR,
the tables being what the bytes spell (a free reading, log 8). Valid is an image exactly when the CRC of all bytes of
its pages is the one stated, its length ends on its last page, its version is the one under load, and its tables hold:
1 to 8 tariffs with distinct numbers and every value in its range, at most 24 band rows with area, start, day classes
and a defined tariff, four defined defaults, at most 8 extras with distinct numbers and amounts and counts in range.
The ACTIVE bank is untouched throughout, and what else changes is named. -/
def Obligations.TariffLoading : Prop :=
  (∀ (s : State) (h : AirHeader) (version count : Nat) (crc : Crc), framePasses h s.part = true →
    s.part.tariff.activity ≠ .swapping → 1 ≤ version → version ≤ 65535 → 1 ≤ count → count ≤ 32 →
    ∃ q, exec (.tariffBegin h version count crc) s = .next { s with part := q } ∧ q.tariff.staging = .clearing ∧
      q.tariff.activity = .clearing ∧ q.tariff.loadVersion = some version ∧ q.tariff.pageCount = some count ∧
      q.tariff.imageCrc = some crc ∧ q.tariff.missing = List.range count ∧ q.tariff.activation = none ∧
      q.tariff.buffer = none ∧ activeBank q.tariff = activeBank s.part.tariff ∧
      q.tariff.activeVersion = s.part.tariff.activeVersion ∧ Part.changesOnly [.tariff] s.part q) ∧
  (∀ (s : State) (h : AirHeader) (version count : Nat) (crc : Crc), framePasses h s.part = true →
    s.part.tariff.activity ≠ .swapping → (version = 0 ∨ 65535 < version ∨ count = 0 ∨ 32 < count) →
    ∃ q, exec (.tariffBegin h version count crc) s = .next { s with part := q } ∧ flagOf q .loadError = true ∧
      (∀ f, f ≠ .loadError → flagOf q f = flagOf s.part f) ∧ Part.changesOnly [.mgmt] s.part q) ∧
  (∀ s : State, s.part.tariff.activity = .clearing →
    ∃ q, exec .clearComplete s = .next { s with part := q } ∧ q.tariff.staging = .loading ∧ q.tariff.activity = .idle ∧
      stagingBank q.tariff = Bank.blank ∧ activeBank q.tariff = activeBank s.part.tariff ∧
      q.tariff.missing = s.part.tariff.missing ∧ q.tariff.loadVersion = s.part.tariff.loadVersion ∧
      q.tariff.buffer = s.part.tariff.buffer ∧
      Part.changesOnly [.tariff] s.part q) ∧
  (∀ (s : State) (h : AirHeader) (version index count : Nat) (bytes : List Byte), framePasses h s.part = true →
    s.part.tariff.staging = .loading → s.part.tariff.activity = .idle → s.part.tariff.buffer = none →
    s.part.tariff.loadVersion = some version → s.part.tariff.pageCount = some count → index < count →
    index ∈ s.part.tariff.missing →
    ∃ q, exec (.tariffPage h version index bytes) s = .next { s with part := q } ∧
      q.tariff = { s.part.tariff with buffer := some (index, bytes), activity := .writing } ∧
      Part.changesOnly [.tariff] s.part q) ∧
  (∀ (s : State) (h : AirHeader) (version index : Nat) (bytes : List Byte),
    (s.part.tariff.staging ≠ .loading ∨ s.part.tariff.loadVersion ≠ some version ∨
      (∀ count, s.part.tariff.pageCount = some count → count ≤ index) ∨ s.part.tariff.buffer ≠ none ∨
      s.part.tariff.activity ≠ .idle) →
    exec (.tariffPage h version index bytes) s = .next s) ∧
  (∀ (s : State) (h : AirHeader) (version index count : Nat) (bytes : List Byte), framePasses h s.part = true →
    s.part.tariff.staging = .loading → s.part.tariff.activity = .idle → s.part.tariff.buffer = none →
    s.part.tariff.loadVersion = some version → s.part.tariff.pageCount = some count → index < count →
    index ∉ s.part.tariff.missing →
    ((stagingBank s.part.tariff).pages.getD index none = some bytes →
      exec (.tariffPage h version index bytes) s = .next s) ∧
    ((stagingBank s.part.tariff).pages.getD index none ≠ some bytes →
      ∃ q, exec (.tariffPage h version index bytes) s = .next { s with part := q } ∧
        q.tariff = { s.part.tariff with missing := q.tariff.missing } ∧
        (∀ j, j < 32 → (j ∈ q.tariff.missing ↔ j = index ∨ j ∈ s.part.tariff.missing)) ∧
        flagOf q .loadError = true ∧ (∀ f, f ≠ .loadError → flagOf q f = flagOf s.part f) ∧
        Part.changesOnly [.tariff, .mgmt] s.part q)) ∧
  (∀ (s : State) (index : Nat) (bytes : List Byte), s.part.tariff.activity = .writing →
    s.part.tariff.buffer = some (index, bytes) → index < (stagingBank s.part.tariff).pages.length →
    ∃ q, exec .pageWriteComplete s = .next { s with part := q } ∧
      (stagingBank q.tariff).pages[index]? = some (some bytes) ∧
      (∀ j, j ≠ index → (stagingBank q.tariff).pages[j]? = (stagingBank s.part.tariff).pages[j]?) ∧
      q.tariff.missing = s.part.tariff.missing.filter (fun j => j != index) ∧ q.tariff.buffer = none ∧
      q.tariff.activity = .idle ∧ activeBank q.tariff = activeBank s.part.tariff ∧
      (q.tariff.missing ≠ [] → q.tariff.staging = s.part.tariff.staging ∧ q.mgmt = s.part.mgmt) ∧
      (q.tariff.missing = [] → ∀ (count : Nat) (data : List Byte), count = s.part.tariff.pageCount.getD 0 →
        data = ((stagingBank q.tariff).pages.take count).flatMap (fun pg => pg.getD []) →
        (imageValid (s.part.tariff.loadVersion.getD 0) count (s.part.tariff.imageCrc.getD 0) data (Config.readImage data) = true →
          q.tariff.staging = .staged ∧ (stagingBank q.tariff).image = some (Config.readImage data) ∧ q.mgmt = s.part.mgmt) ∧
        (imageValid (s.part.tariff.loadVersion.getD 0) count (s.part.tariff.imageCrc.getD 0) data (Config.readImage data) = false →
          q.tariff.staging = .rejected ∧ flagOf q .loadError = true)) ∧
      Part.changesOnly [.tariff, .mgmt] s.part q) ∧
  (∀ (version count : Nat) (crc : Crc) (bytes : List Byte) (img : Image),
    imageValid version count crc bytes img = true ↔
      crc16 bytes = crc ∧ (count - 1) * 64 + 1 ≤ img.length ∧ img.length ≤ count * 64 ∧ img.version = version ∧
      1 ≤ img.tariffs.length ∧ img.tariffs.length ≤ 8 ∧ (img.tariffs.map (fun t => t.number)).Nodup ∧
      (∀ t ∈ img.tariffs, 1 ≤ t.number ∧ t.number ≤ 8 ∧ t.flagfall ≤ 999999 ∧ 1 ≤ t.drop ∧ t.drop ≤ 99999 ∧
        10 ≤ t.distStep ∧ t.distStep ≤ 2000 ∧ 1 ≤ t.timeStep ∧ t.timeStep ≤ 600 ∧ t.initial ≤ 20000) ∧
      img.bands.length ≤ 24 ∧
      (∀ r ∈ img.bands, r.area ≤ 3 ∧ r.start ≤ 1439 ∧ r.days ≠ [] ∧ (∀ d ∈ r.days, d ≤ 3) ∧
        ∃ t ∈ img.tariffs, t.number = r.tariff) ∧
      img.defaults.length = 4 ∧ (∀ n ∈ img.defaults, ∃ t ∈ img.tariffs, t.number = n) ∧
      img.extras.length ≤ 8 ∧ (img.extras.map (fun e => e.number)).Nodup ∧
      (∀ e ∈ img.extras, e.amount ≤ 999999 ∧ 1 ≤ e.maxCount ∧ e.maxCount ≤ 9))

/-- TARIFF ACTIVATE NOW of the staged version with no swap in flight: the activation is pending and due, and the swap
begins at once when no trip is open and waits when one is. TIMED in range, not due yet: the activation waits with its
time and days. Of another version, in another staging state, or with values out of form: LOAD_ERROR and nothing else.
TARIFF ABANDON outside EMPTY with no swap in flight: the staging state is EMPTY, nothing is missing, held, in flight
or pending, and the ACTIVE bank stays. Nothing but the tariff store changes. A trip is open in HIRED, PAYABLE and
SUSPENDED. -/
def Obligations.ActivationAndAbandon : Prop :=
  (∀ (s : State) (h : AirHeader) (version : Nat), framePasses h s.part = true → s.part.tariff.activity ≠ .swapping →
    s.part.tariff.staging = .staged → s.part.tariff.loadVersion = some version →
    ∃ q, exec (.tariffActivate h version .now) s = .next { s with part := q } ∧
      q.tariff =
        { s.part.tariff with
          activation := some ⟨version, .now, true⟩,
          activity := if tripOpen s.part.meter.state then s.part.tariff.activity else .swapping } ∧
      Part.changesOnly [.tariff] s.part q) ∧
  (∀ (s : State) (h : AirHeader) (version tod days : Nat), framePasses h s.part = true →
    s.part.tariff.activity ≠ .swapping → s.part.tariff.staging = .staged → s.part.tariff.loadVersion = some version →
    tod ≤ 86399 → days ≤ 6 → (0 < days ∨ s.part.clock.state = .unset ∨ s.part.clock.tod < tod) →
    ∃ q, exec (.tariffActivate h version (.timed tod days)) s = .next { s with part := q } ∧
      q.tariff = { s.part.tariff with activation := some ⟨version, .timed tod days, false⟩ } ∧
      Part.changesOnly [.tariff] s.part q) ∧
  (∀ (s : State) (h : AirHeader) (version : Nat) (mode : ActivateMode), framePasses h s.part = true →
    s.part.tariff.activity ≠ .swapping →
    (s.part.tariff.staging ≠ .staged ∨ s.part.tariff.loadVersion ≠ some version ∨ mode = .unknown ∨
      (∃ tod days, mode = .timed tod days ∧ (86399 < tod ∨ 6 < days))) →
    ∃ q, exec (.tariffActivate h version mode) s = .next { s with part := q } ∧ flagOf q .loadError = true ∧
      (∀ f, f ≠ .loadError → flagOf q f = flagOf s.part f) ∧ Part.changesOnly [.mgmt] s.part q) ∧
  (∀ (s : State) (h : AirHeader), framePasses h s.part = true → s.part.tariff.activity ≠ .swapping →
    s.part.tariff.staging ≠ .empty →
    ∃ q, exec (.tariffAbandon h) s = .next { s with part := q } ∧ q.tariff.staging = .empty ∧
      q.tariff.activation = none ∧ q.tariff.missing = [] ∧ q.tariff.buffer = none ∧ q.tariff.activity = .idle ∧
      activeBank q.tariff = activeBank s.part.tariff ∧ q.tariff.activeVersion = s.part.tariff.activeVersion ∧
      Part.changesOnly [.tariff] s.part q) ∧
  (∀ st : MeterState, tripOpen st = true ↔ st = .hired ∨ st = .payable ∨ st = .suspended)

/-- While a swap is in flight, a TARIFF BEGIN, PAGE, ACTIVATE or ABANDON changes nothing at all; a QUERY TARIFF of the
terminal is answered with the swap-in-flight item set, and one of the base by a REPLY with that item set, given room
in the queue; and after any frame from the base, of every row that takes one (markers, SET IDENTITY and a fleet
restart included), the swap is still in flight. -/
def Obligations.SwapIgnoresFrames : Prop :=
  (∀ (s : State) (h : AirHeader) (version n : Nat) (crc : Crc) (bytes : List Byte) (mode : ActivateMode),
    s.part.tariff.activity = .swapping →
    exec (.tariffBegin h version n crc) s = .next s ∧ exec (.tariffPage h version n bytes) s = .next s ∧
    exec (.tariffActivate h version mode) s = .next s ∧ exec (.tariffAbandon h) s = .next s) ∧
  (∀ (s : State) (req : Nat), s.part.tariff.activity = .swapping → portFree s.part = true →
    ∃ q r, exec (.queryTariff (.cab req)) s = .next { s with part := q } ∧
      answered req 20 .ok (.answer (.tariff r)) s.part q ∧ r.swapInFlight = true ∧ Part.changesOnly [.port] s.part q) ∧
  (∀ (s : State) (h : AirHeader), s.part.tariff.activity = .swapping → framePasses h s.part = true → queueRoom s.part →
    ∃ q r, exec (.queryTariff (.air h)) s = .next { s with part := q } ∧ holdsEntry (.reply (.tariff r)) none .waiting q ∧
      r.swapInFlight = true) ∧
  (∀ (c : Instr) (s : State), fromBase c = true → s.part.tariff.activity = .swapping →
    ∃ q, exec c s = .next { s with part := q } ∧ q.tariff.activity = .swapping)

/-- A heard marker whose time-of-day or day class is out of range leaves the time base but for the local counter. Any
other sets time and day class, the clock SYNCED with no silence, and CLOCK exactly when the clock was not UNSET and
the step is above 60 s. It starts a window where there is none, starts it anew when it is out of sequence, not the
window's next cycle, or L differs, and otherwise adds an interval (after a fleet restart too: the model's choice, log
41). For a window started at a with cycle length L ms and completed by a marker that arrives at b: with E = b - a and
N = 64 x L x 1000, x is the nearest integer to (E - N) x 10^6 / N, halves away from zero; a magnitude above 400 leaves
the trim and starts no write; otherwise the trim becomes t plus the rounded half of x - t, held to -200 to 200, its
nonvolatile write starts, and a new window starts at this marker. Elsewhere the row TRIM_EVALUATION changes nothing
(log 9). The marker that completes the window is one that counts its 64th interval. -/
def Obligations.TrimFollowsTheWindow : Prop :=
  (∀ (s : State) (frame : List Byte) (arrival : Nat) (m : Marker) (w : TrimWindow) (n x : Int),
    trimCompletes frame s.part = true → heardMarker frame s.part = some m → s.part.clock.window = some w →
    n = 64 * w.len * 1000 → x = roundHalfAway (((arrival : Int) - w.start - n) * 1000000) n.toNat →
    ∃ q, exec (.trimEvaluation frame arrival) s = .next { s with part := q } ∧
      exec (.marker frame arrival) s = .next { s with part := q } ∧
      (400 < x.natAbs → q.clock.trim = s.part.clock.trim ∧ q.clock.trimWrite = s.part.clock.trimWrite) ∧
      (x.natAbs ≤ 400 →
        q.clock.trim = max (-200) (min 200 (s.part.clock.trim + roundHalfAway (x - s.part.clock.trim) 2)) ∧
        q.clock.trimWrite = some q.clock.trim) ∧
      q.clock.trimNv = s.part.clock.trimNv ∧ q.clock.tod = m.tod ∧ q.clock.day = m.day ∧ q.clock.silence = 0 ∧
      q.clock.state = .synced ∧ q.clock.window = some ⟨arrival, m.cycle, 0, s.part.mgmt.params.len⟩) ∧
  (∀ (s : State) (frame : List Byte) (arrival : Nat) (m : Marker), heardMarker frame s.part = some m →
    ∃ q, exec (.marker frame arrival) s = .next { s with part := q } ∧
      (86399 < m.tod ∨ 3 < m.day →
        q.clock = { s.part.clock with local_ := max s.part.clock.local_ arrival } ∧
        flagOf q .clock = flagOf s.part .clock) ∧
      (m.tod ≤ 86399 → m.day ≤ 3 → ∀ d, d = (m.tod + 86400 - s.part.clock.tod) % 86400 →
        q.clock.tod = m.tod ∧ q.clock.day = m.day ∧ q.clock.silence = 0 ∧ q.clock.state = .synced ∧
        (flagOf q .clock = true ↔
          flagOf s.part .clock = true ∨
            (s.part.clock.state ≠ .unset ∧ 60 < (if 43200 ≤ d then 86400 - d else d))) ∧
        (s.part.clock.window = none → q.clock.window = some ⟨arrival, m.cycle, 0, s.part.mgmt.params.len⟩) ∧
        (∀ w, s.part.clock.window = some w →
          (m.cycle ≠ (s.part.ctl.cycle + 1) % 4096 ∨ m.cycle ≠ (w.lastCycle + 1) % 4096 ∨
              s.part.mgmt.params.len ≠ w.len →
            q.clock.window = some ⟨arrival, m.cycle, 0, s.part.mgmt.params.len⟩ ∧
              q.clock.trim = s.part.clock.trim ∧ q.clock.trimWrite = s.part.clock.trimWrite) ∧
          (m.cycle = (s.part.ctl.cycle + 1) % 4096 → m.cycle = (w.lastCycle + 1) % 4096 →
              s.part.mgmt.params.len = w.len → w.count < 63 →
            q.clock.window = some { w with count := w.count + 1, lastCycle := m.cycle } ∧
              q.clock.trim = s.part.clock.trim ∧ q.clock.trimWrite = s.part.clock.trimWrite)))) ∧
  (∀ (s : State) (frame : List Byte) (arrival : Nat), trimCompletes frame s.part = false →
    exec (.trimEvaluation frame arrival) s = .next s) ∧
  (∀ (a : Int) (b : Nat), 0 < b →
    2 * (a - roundHalfAway a b * b).natAbs ≤ b ∧
    (2 * (a - roundHalfAway a b * b).natAbs = b → a.natAbs ≤ (roundHalfAway a b * b).natAbs)) ∧
  (∀ (frame : List Byte) (p : Part),
    trimCompletes frame p = true ↔
      ∃ m w, heardMarker frame p = some m ∧ p.clock.window = some w ∧ m.tod ≤ 86399 ∧ m.day ≤ 3 ∧
        m.cycle = (p.ctl.cycle + 1) % 4096 ∧ m.cycle = (w.lastCycle + 1) % 4096 ∧ p.mgmt.params.len = w.len ∧ 63 ≤ w.count)

/-- When the write of the trim completes, the nonvolatile trim is the value written and nothing else changes. When a log
update completes, its changes stand in the nonvolatile contents, applied in the order in which they arrived, and the
waiting changes, if any, begin the next update together; the working copies stay. LOG_UPDATE_BEGIN with changes
waiting is that completion when an update is in flight, and begins the update of the waiting ones when none is
(model's choice, log 9). What a change writes is given for each kind of change. -/
def Obligations.NonvolatileWritesComplete : Prop :=
  (∀ (s : State) (v : Int), s.part.clock.trimWrite = some v →
    ∃ q, exec .trimWriteComplete s = .next { s with part := q } ∧
      q.clock = { s.part.clock with trimNv := v, trimWrite := none } ∧ Part.changesOnly [.clock] s.part q) ∧
  (∀ (s : State) (cs : List LogChange), s.part.log.inFlight = some cs →
    ∃ q, exec .logUpdateComplete s = .next { s with part := q } ∧
      q.log =
        { s.part.log with
          nv := writeChanges cs s.part.log.nv,
          inFlight := if s.part.log.waiting = [] then none else some s.part.log.waiting, waiting := [] } ∧
      Part.changesOnly [.log] s.part q) ∧
  (∀ s : State, s.part.log.waiting ≠ [] → s.part.log.inFlight = none →
    ∃ q, exec .logUpdateBegin s = .next { s with part := q } ∧
      q.log = { s.part.log with inFlight := some s.part.log.waiting, waiting := [] } ∧
      Part.changesOnly [.log] s.part q) ∧
  (∀ s : State, s.part.log.waiting ≠ [] → s.part.log.inFlight ≠ none →
    exec .logUpdateBegin s = exec .logUpdateComplete s) ∧
  (∀ (cs ds : List LogChange) (nv : LogStore), writeChanges (cs ++ ds) nv = writeChanges ds (writeChanges cs nv)) ∧
  (∀ (nv : LogStore) (n : Nat) (t : Totalizers) (r : TripRecord) (e : Bool),
    writeChanges [.shiftNumber n] nv = { nv with shiftCounter := n } ∧
    writeChanges [.totals t] nv = { nv with totals := t } ∧
    writeChanges [.closed r e n t] nv =
      { nv with records := (if e then nv.records.drop 1 else nv.records) ++ [r], tripCounter := n, totals := t } ∧
    ((writeChanges [.delivered n] nv).records.map (fun x => (x.number, x.delivery)) =
      nv.records.map (fun x => (x.number, if x.number = n then .delivered else x.delivery))))

/-- A heard marker becomes the current cycle and sets the expected time and the timer by the L then in force. In SEARCH it
enters ACQUIRE with a count of 1. In ACQUIRE, out of sequence the count is 1 again; in sequence it rises, and the
third locks (or parks at once). In LOCKED or HOLDOVER, in sequence the controller is LOCKED (or parks), out of
HOLDOVER with a missed count of 0, with the marker's open slots and restricted flag; out of sequence it re-acquires:
ACQUIRE, count 1, no missed marker, no schedule. In PARKED with no cycle start waiting the missed count is 0, and a
marker whose paging list holds the cab's address wakes it into HOLDOVER with a page hold of 30. With room in the list
each change of the acquisition state places its LINK notice, with the new cycle: LOCKED before PARKED where a
controller that was not LOCKED parks at once. What else changes is named. -/
def Obligations.MarkersByState : Prop :=
  ∀ (s : State) (frame : List Byte) (arrival next : Nat) (m : Marker), heardMarker frame s.part = some m →
    next = (s.part.ctl.cycle + 1) % 4096 →
    ∃ q, exec (.marker frame arrival) s = .next { s with part := q } ∧ q.ctl.cycle = m.cycle ∧
      q.ctl.len = s.part.mgmt.params.len ∧ q.ctl.expected = arrival + s.part.mgmt.params.len * 1000 ∧
      q.ctl.timer = arrival + s.part.mgmt.params.len * 1000 + s.part.mgmt.params.len * 125 ∧
      (s.part.ctl.acq = .search → q.ctl.acq = .acquire ∧ q.ctl.inSeq = 1) ∧
      (s.part.ctl.acq = .acquire →
        (m.cycle ≠ next → q.ctl.acq = .acquire ∧ q.ctl.inSeq = 1) ∧
        (m.cycle = next → s.part.ctl.inSeq < 2 → q.ctl.acq = .acquire ∧ q.ctl.inSeq = s.part.ctl.inSeq + 1) ∧
        (m.cycle = next → 2 ≤ s.part.ctl.inSeq → (q.ctl.acq = .locked ∨ q.ctl.acq = .parked) ∧ q.ctl.inSeq = 3)) ∧
      (s.part.ctl.acq = .locked ∨ s.part.ctl.acq = .holdover →
        (m.cycle = next → (q.ctl.acq = .locked ∨ q.ctl.acq = .parked) ∧
          (s.part.ctl.acq = .holdover ∨ q.ctl.acq = .parked → q.ctl.missed = 0) ∧
          (q.ctl.acq = .locked → q.ctl.nOpen = m.nOpen ∧ q.ctl.restricted = m.restricted)) ∧
        (m.cycle ≠ next → q.ctl.acq = .acquire ∧ q.ctl.inSeq = 1 ∧ q.ctl.missed = 0 ∧ q.ctl.schedule = [])) ∧
      (s.part.ctl.acq = .parked → signalsTaken s.part → q.ctl.missed = 0 ∧
        (m.pages.contains s.part.mgmt.identity.addr = true → q.ctl.acq = .holdover ∧ q.ctl.pageHold = 30) ∧
        (m.pages.contains s.part.mgmt.identity.addr = false → q.ctl.acq = .parked)) ∧
      (signalsTaken s.part → (notices s.part).length + 2 ≤ 32 →
        linkNotices q =
          linkNotices s.part ++
            (if q.ctl.acq = s.part.ctl.acq then []
             else if q.ctl.acq = .parked ∧ s.part.ctl.acq ≠ .locked then [.link .locked m.cycle, .link .parked m.cycle]
             else [.link q.ctl.acq m.cycle])) ∧
      Part.changesOnly [.sig, .queue, .mgmt, .draws, .port, .offers, .log, .emg, .ctl, .clock] s.part q

/-- At an in-sequence marker heard in LOCKED or HOLDOVER, with no entry SENT, no cycle start waiting and, unless every
entry is WAITING, tags that differ, no grant wait ending: the page hold is 30 when the paging list holds the cab's
address and one less than before otherwise. The controller parks exactly when the ignition is off for 300 s or more,
the meter OFF_DUTY, the emergency state IDLE, every entry WAITING and of class ROUTINE or BULK, and the page hold 0;
then no schedule is made, no counter moves and no marker is missed. Otherwise it is LOCKED. A RESERVING entry takes
the first grant that fits it (own address and tag, its slot count, at or above N_open, within slot 15), GRANTED with
the grant's slots in the schedule; without one its wait goes on. Every WAITING entry's counter falls by one for each
open slot eligible for it (a ROUTINE or BULK one uses no slot 0 and none when restricted or in ALERT). The schedule is
one open-slot pair, of the lowest slot at which some WAITING entry is ready (eligible, its counter run out before it)
and the first such entry in queue order, before the granted slots in queue order; it is the granted slots alone when
no entry is ready at any slot, or when an entry is RESERVING still. New entries of the trip log stand behind. That the
trip log's offers (log 11) and the queue's expiries (log 10) of this cycle start come after the marker's settlement
and schedule is the model's choice. Step 6 itself, with an entry SENT or RESERVING, schedules no open slot and lets
the counters run (no SENT entry reaches it: an in-sequence marker settles each). -/
def Obligations.MarkersSchedule : Prop :=
  (∀ (s : State) (frame : List Byte) (arrival : Nat) (m : Marker),
    (s.part.ctl.acq = .locked ∨ s.part.ctl.acq = .holdover) → heardMarker frame s.part = some m →
    m.cycle = (s.part.ctl.cycle + 1) % 4096 → signalsTaken s.part →
    ((∀ e ∈ s.part.queue.entries, e.st = .waiting) ∨ tagsDistinct s.part) →
    (∀ e ∈ s.part.queue.entries, e.st ≠ .sent) →
    let paged := m.pages.contains s.part.mgmt.identity.addr
    let fits (e : Entry) (g : Grant) : Bool :=
      decide (g.addr = s.part.mgmt.identity.addr) && decide (g.tag = e.tag) && decide (g.count = (e.size + 31) / 32) &&
        decide (m.nOpen ≤ g.first) && decide (g.first + g.count ≤ 16)
    let granted (e : Entry) : Bool := decide (e.st = .reserving) && m.grants.any (fits e)
    let waits (e : Entry) : Bool := decide (e.st = .reserving) && !m.grants.any (fits e)
    let grantSlots (e : Entry) : List SlotUse :=
      if e.st = .reserving then
        match m.grants.find? (fits e) with
        | some g => (List.range g.count).map (fun i => ⟨g.first + i, e.uid, true⟩)
        | none => []
      else []
    let eligible (e : Entry) (k : Nat) : Bool :=
      decide (k < m.nOpen) && (!isLowClass (classOf (kindOf e.body)) ||
        (decide (k ≠ 0) && !m.restricted && decide (s.part.emg.state ≠ .alert)))
    let slots (e : Entry) (n : Nat) : Nat := ((List.range n).filter (eligible e)).length
    let ready (e : Entry) (k : Nat) : Prop := e.st = .waiting ∧ eligible e k = true ∧ e.counter ≤ slots e k
    let after (e : Entry) : Entry :=
      if e.st = .waiting then { e with counter := e.counter - slots e m.nOpen }
      else if granted e then { e with st := .granted, grantWait := 0 }
      else if waits e then { e with grantWait := e.grantWait + 1 }
      else e
    let parks : Prop :=
      s.part.lines.ignition = false ∧ 300 ≤ s.part.ctl.offTime ∧ s.part.meter.state = .offDuty ∧
      s.part.emg.state = .idle ∧ (∀ e ∈ s.part.queue.entries, isLowClass (classOf (kindOf e.body)) = true) ∧
      (∀ e ∈ s.part.queue.entries, e.st = .waiting) ∧ paged = false ∧ s.part.ctl.pageHold ≤ 1
    let grants : List SlotUse := s.part.queue.entries.flatMap grantSlots
    (∀ e ∈ s.part.queue.entries, waits e = true → e.grantWait < 7) →
    ∃ q new, exec (.marker frame arrival) s = .next { s with part := q } ∧
      q.ctl.pageHold = (if paged then 30 else s.part.ctl.pageHold - 1) ∧
      (∀ e ∈ new, e.st = .waiting ∧ classOf (kindOf e.body) = .bulk) ∧
      (parks → q.ctl.acq = .parked ∧ q.ctl.schedule = [] ∧ q.ctl.missed = 0 ∧
        q.queue.entries = s.part.queue.entries ++ new) ∧
      (¬ parks →
        q.ctl.acq = .locked ∧ q.queue.entries = s.part.queue.entries.map after ++ new ∧
        ((∃ e ∈ s.part.queue.entries, waits e = true) → q.ctl.schedule = grants) ∧
        ((∀ e ∈ s.part.queue.entries, waits e = false) →
          ((∀ e ∈ s.part.queue.entries, ∀ k, k < m.nOpen → ¬ ready e k) → q.ctl.schedule = grants) ∧
          (∀ (k i : Nat) (e : Entry), s.part.queue.entries[i]? = some e → ready e k →
            (∀ x ∈ s.part.queue.entries, ∀ j, j < k → ¬ ready x j) →
            (∀ (j : Nat) (x : Entry), j < i → s.part.queue.entries[j]? = some x → ¬ ready x k) →
            q.ctl.schedule = ⟨k, e.uid, false⟩ :: grants)))) ∧
  (∀ p : Part, (∃ e ∈ p.queue.entries, e.st = .sent ∨ e.st = .reserving) →
    (buildSchedule p).ctl = p.ctl ∧ Part.changesOnly [.ctl, .queue] p (buildSchedule p) ∧
    ∀ (i : Nat) (e : Entry), p.queue.entries[i]? = some e →
      (buildSchedule p).queue.entries[i]? =
        some (if e.st = .waiting then
          { e with
            counter :=
              e.counter -
                ((List.range p.ctl.nOpen).filter (fun k =>
                  !isLowClass (classOf (kindOf e.body)) ||
                    (decide (k ≠ 0) && !p.ctl.restricted && decide (p.emg.state ≠ .alert)))).length }
        else e))


/-- At the missed-marker event the cycle advances, the expected time and the timer move on by L, and the schedule is
empty. SEARCH stays, ACQUIRE returns to SEARCH, LOCKED enters HOLDOVER with a missed count of 1; in HOLDOVER the count
rises and the 8th ends in SEARCH; in PARKED, with no cycle start waiting, a missed listening time (the cab's address
modulo 8) counts and the 8th ends in SEARCH, another cycle changes neither state nor count. With room in the list a
change of the state places its LINK notice, with the new cycle. HOLDOVER_TIMEOUT and PARKED_TIMEOUT are that event
where it is the 8th, and nothing elsewhere (the model's choice, log 9). What else changes is named. -/
def Obligations.MissedMarkersByState : Prop :=
  let listening (p : Part) : Prop := (p.ctl.cycle + 1) % 4096 % 8 = p.mgmt.identity.addr % 8
  (∀ s : State, ∃ q, exec .missedMarkerEvent s = .next { s with part := q } ∧
    q.ctl.cycle = (s.part.ctl.cycle + 1) % 4096 ∧ q.ctl.expected = s.part.ctl.expected + s.part.ctl.len * 1000 ∧
    q.ctl.timer = s.part.ctl.expected + s.part.ctl.len * 1000 + s.part.ctl.len * 125 ∧ q.ctl.schedule = [] ∧
    (s.part.ctl.acq = .search → q.ctl.acq = .search) ∧
    (s.part.ctl.acq = .acquire → q.ctl.acq = .search ∧ q.ctl.inSeq = 0) ∧
    (s.part.ctl.acq = .locked → q.ctl.acq = .holdover ∧ q.ctl.missed = 1) ∧
    (s.part.ctl.acq = .holdover → s.part.ctl.missed < 7 → q.ctl.acq = .holdover ∧ q.ctl.missed = s.part.ctl.missed + 1) ∧
    (s.part.ctl.acq = .holdover → 7 ≤ s.part.ctl.missed → q.ctl.acq = .search ∧ q.ctl.missed = 0) ∧
    (s.part.ctl.acq = .parked → signalsTaken s.part →
      (listening s.part → s.part.ctl.missed < 7 → q.ctl.acq = .parked ∧ q.ctl.missed = s.part.ctl.missed + 1) ∧
      (listening s.part → 7 ≤ s.part.ctl.missed → q.ctl.acq = .search ∧ q.ctl.missed = 0) ∧
      (¬ listening s.part → q.ctl.acq = .parked ∧ q.ctl.missed = s.part.ctl.missed)) ∧
    (signalsTaken s.part → noticeRoom s.part →
      linkNotices q =
        linkNotices s.part ++
          (if q.ctl.acq = s.part.ctl.acq then [] else [.link q.ctl.acq ((s.part.ctl.cycle + 1) % 4096)])) ∧
    Part.changesOnly [.sig, .queue, .mgmt, .draws, .port, .offers, .log, .emg, .ctl, .clock] s.part q) ∧
  (∀ s : State, s.part.ctl.acq = .holdover → 7 ≤ s.part.ctl.missed →
    ∃ q, exec .holdoverTimeout s = .next { s with part := q } ∧ exec .missedMarkerEvent s = .next { s with part := q } ∧
      q.ctl.acq = .search) ∧
  (∀ s : State, (s.part.ctl.acq ≠ .holdover ∨ s.part.ctl.missed < 7) → exec .holdoverTimeout s = .next s) ∧
  (∀ s : State, s.part.ctl.acq = .parked → listening s.part → 7 ≤ s.part.ctl.missed → signalsTaken s.part →
    ∃ q, exec .parkedTimeout s = .next { s with part := q } ∧ exec .missedMarkerEvent s = .next { s with part := q } ∧
      q.ctl.acq = .search) ∧
  (∀ s : State, (s.part.ctl.acq ≠ .parked ∨ ¬ listening s.part ∨ s.part.ctl.missed < 7) →
    exec .parkedTimeout s = .next s)

/-- For a queue of one entry with no cycle start waiting (that the expiries of the cycle start which a marker makes are
taken after it is the model's choice, log 10), in LOCKED or HOLDOVER, at an in-sequence marker: a SENT entry whose
pair is listed leaves, with a SOFT fault of its last cause at attempt 3 or later; one whose pair is not listed returns
to WAITING with cause NO_ACK, a doubled window up to its class's stop and a counter below it, or, its limit reached,
leaves with a HARD fault and LINK_NO_ACK; a RESERVING entry takes the first grant that fits it, GRANTED with the
grant's slots as the schedule, and without one its wait goes on and nothing is scheduled. At a missed marker a window
or wait that does not end goes on; a window that ends fails with NO_ACK in the same way; an entry whose 8th marker
time passes without its grant, heard or missed, returns to WAITING with NO_GRANT; a SENT emergency entry that settles
with a frame in the hold is followed by that frame as a WAITING entry without attempts, and the hold is empty. Each
row that names such a moment is the marker or missed marker at which it happens, and nothing elsewhere (the model's
choice, log 9). At an out-of-sequence marker, which makes the controller re-acquire, a SENT entry fails with NO_ACK
and a RESERVING or GRANTED one with NO_GRANT, settled in the same way, a WAITING one stays, and in any queue whose
tags differ no entry is in flight after it. -/
def Obligations.AttemptsSettle : Prop :=
  let below (e : Entry) (p : Part) : Prop := ∀ n, attemptLimit p.mgmt.params (kindOf e.body) = some n → e.attempts < n
  let returned (e : Entry) (cause : Cause) (q : Part) : Prop :=
    ∃ x ∈ q.queue.entries, x.uid = e.uid ∧ x.tag = e.tag ∧ x.body = e.body ∧ x.st = .waiting ∧
      x.lastCause = some cause ∧ x.window = min (windowCap (classOf (kindOf e.body))) (2 * e.window) ∧
      x.attempts = e.attempts ∧ (0 < e.window → x.counter < x.window)
  let faultAt (e : Entry) (hard : Bool) (cause : Cause) (cycle : Nat) : LinkFault :=
    ⟨hard, kindOf e.body, classOf (kindOf e.body), e.tag, e.source, cause, e.attempts, cycle, false⟩
  let taken (m : Marker) (e : Entry) (g : Grant) (p : Part) : Prop :=
    g.addr = p.mgmt.identity.addr ∧ g.tag = e.tag ∧ g.count = (e.size + 31) / 32 ∧ m.nOpen ≤ g.first ∧ g.first + g.count ≤ 16
  let event (a : Settling) : Instr := match a with | .marker frame arrival => .marker frame arrival | .missed => .missedMarkerEvent
  (∀ (s : State) (e : Entry), (s.part.ctl.acq = .locked ∨ s.part.ctl.acq = .holdover) → signalsTaken s.part →
    s.part.queue.entries = [e] → e.st = .sent → e.ackWindow ≤ 1 → e.mark = none → s.part.queue.hold = none →
    ∃ q, exec .ackWindowExpiry s = .next { s with part := q } ∧ exec .missedMarkerEvent s = .next { s with part := q } ∧
      (below e s.part → returned e .noAck q) ∧
      (∀ n, attemptLimit s.part.mgmt.params (kindOf e.body) = some n → n ≤ e.attempts →
        q.queue.fault = latchFault s.part.queue.fault (faultAt e true .noAck ((s.part.ctl.cycle + 1) % 4096)) ∧
        flagOf q .linkNoAck = true ∧ ∀ x ∈ q.queue.entries, x.st = .waiting ∧ x.attempts = 0)) ∧
  (∀ (s : State) (e : Entry) (a : Settling), grantWaitEnds a s.part = true → signalsTaken s.part →
    s.part.queue.entries = [e] → e.mark = none → s.part.queue.hold = none → below e s.part →
    ∃ q, exec (.grantWaitExpiry a) s = .next { s with part := q } ∧ exec (event a) s = .next { s with part := q } ∧
      returned e .noGrant q) ∧
  (∀ (s : State) (e : Entry) (b : Body) (a : Settling), holdResolves a s.part = true → signalsTaken s.part →
    s.part.queue.entries = [e] → e.mark = none → s.part.queue.hold = some b → classOf (kindOf b) = .emergency →
    ∃ q, exec (.emergencyHoldResolve a) s = .next { s with part := q } ∧ exec (event a) s = .next { s with part := q } ∧
      q.queue.hold = none ∧ ∃ x ∈ q.queue.entries, x.body = b ∧ x.st = .waiting ∧ x.attempts = 0) ∧
  (∀ (s : State) (frame : List Byte) (arrival : Nat) (m : Marker) (e : Entry),
    (s.part.ctl.acq = .locked ∨ s.part.ctl.acq = .holdover) → signalsTaken s.part → heardMarker frame s.part = some m →
    m.cycle = (s.part.ctl.cycle + 1) % 4096 → s.part.queue.entries = [e] → e.mark = none → s.part.queue.hold = none →
    ∃ q, exec (.marker frame arrival) s = .next { s with part := q } ∧
      (e.st = .sent → (s.part.mgmt.identity.addr, e.tag) ∈ m.acks →
        (∀ x ∈ q.queue.entries, x.st = .waiting ∧ x.attempts = 0) ∧
        (e.attempts < 3 → q.queue.fault = s.part.queue.fault) ∧
        (3 ≤ e.attempts → ∀ c, e.lastCause = some c →
          q.queue.fault = latchFault s.part.queue.fault (faultAt e false c m.cycle))) ∧
      (e.st = .sent → (s.part.mgmt.identity.addr, e.tag) ∉ m.acks →
        (below e s.part → returned e .noAck q) ∧
        (∀ n, attemptLimit s.part.mgmt.params (kindOf e.body) = some n → n ≤ e.attempts →
          q.queue.fault = latchFault s.part.queue.fault (faultAt e true .noAck m.cycle) ∧
          flagOf q .linkNoAck = true ∧ ∀ x ∈ q.queue.entries, x.st = .waiting ∧ x.attempts = 0)) ∧
      (∀ (before after : List Grant) (g : Grant), e.st = .reserving → m.grants = before ++ g :: after →
        taken m e g s.part → (∀ x ∈ before, ¬ taken m e x s.part) →
        { e with st := .granted, grantWait := 0 } ∈ q.queue.entries ∧
        q.ctl.schedule = (List.range g.count).map (fun i => ⟨g.first + i, e.uid, true⟩)) ∧
      (e.st = .reserving → (∀ g ∈ m.grants, ¬ taken m e g s.part) → e.grantWait < 7 →
        { e with grantWait := e.grantWait + 1 } ∈ q.queue.entries ∧ q.ctl.schedule = [])) ∧
  (∀ (s : State) (e : Entry), (s.part.ctl.acq = .locked ∨ s.part.ctl.acq = .holdover) → signalsTaken s.part →
    s.part.queue.entries = [e] →
    ∃ q, exec .missedMarkerEvent s = .next { s with part := q } ∧
      (e.st = .sent → 1 < e.ackWindow → { e with ackWindow := e.ackWindow - 1 } ∈ q.queue.entries) ∧
      (e.st = .reserving → e.grantWait < 7 → { e with grantWait := e.grantWait + 1 } ∈ q.queue.entries)) ∧
  (∀ s : State, ackWindowEnds s.part = false → exec .ackWindowExpiry s = .next s) ∧
  (∀ (s : State) (a : Settling), grantWaitEnds a s.part = false → exec (.grantWaitExpiry a) s = .next s) ∧
  (∀ (s : State) (a : Settling), holdResolves a s.part = false → exec (.emergencyHoldResolve a) s = .next s) ∧
  (∀ (s : State) (frame : List Byte) (arrival : Nat) (m : Marker) (e : Entry) (cause : Cause),
    (s.part.ctl.acq = .locked ∨ s.part.ctl.acq = .holdover) → signalsTaken s.part → heardMarker frame s.part = some m →
    m.cycle ≠ (s.part.ctl.cycle + 1) % 4096 → s.part.queue.entries = [e] → e.mark = none → s.part.queue.hold = none →
    cause = (if e.st = .sent then .noAck else .noGrant) →
    ∃ q, exec (.marker frame arrival) s = .next { s with part := q } ∧ q.ctl.schedule = [] ∧
      (e.st = .waiting → e ∈ q.queue.entries ∧ q.queue.fault = s.part.queue.fault) ∧
      (e.st ≠ .waiting →
        (below e s.part → returned e cause q) ∧
        (∀ n, attemptLimit s.part.mgmt.params (kindOf e.body) = some n → n ≤ e.attempts →
          q.queue.fault = latchFault s.part.queue.fault (faultAt e true cause m.cycle) ∧
          flagOf q (causeFlag cause) = true ∧ ∀ x ∈ q.queue.entries, x.st = .waiting ∧ x.attempts = 0))) ∧
  (∀ (s t : State) (frame : List Byte) (arrival : Nat) (m : Marker),
    (s.part.ctl.acq = .locked ∨ s.part.ctl.acq = .holdover) → tagsDistinct s.part → heardMarker frame s.part = some m →
    m.cycle ≠ (s.part.ctl.cycle + 1) % 4096 → exec (.marker frame arrival) s = .next t →
    ∀ x ∈ t.part.queue.entries, x.st = .waiting) ∧
  (∀ p : Part, signalsTaken p →
    (ackWindowEnds p = true ↔
      (p.ctl.acq = .locked ∨ p.ctl.acq = .holdover) ∧ ∃ e ∈ p.queue.entries, e.st = .sent ∧ e.ackWindow ≤ 1) ∧
    (grantWaitEnds .missed p = true ↔
      (p.ctl.acq = .locked ∨ p.ctl.acq = .holdover) ∧ ∃ e ∈ p.queue.entries, e.st = .reserving ∧ 7 ≤ e.grantWait) ∧
    (holdResolves .missed p = true ↔
      (p.ctl.acq = .locked ∨ p.ctl.acq = .holdover) ∧ p.queue.hold ≠ none ∧
      ∃ e ∈ p.queue.entries, classOf (kindOf e.body) = .emergency ∧ e.st = .sent ∧ e.ackWindow ≤ 1) ∧
    (∀ frame arrival,
      (grantWaitEnds (.marker frame arrival) p = true ↔
        ∃ m, heardMarker frame p = some m ∧ (p.ctl.acq = .locked ∨ p.ctl.acq = .holdover) ∧
          m.cycle = (p.ctl.cycle + 1) % 4096 ∧
          ∃ e ∈ p.queue.entries, e.st = .reserving ∧ 7 ≤ e.grantWait ∧ ∀ g ∈ m.grants, ¬ taken m e g p) ∧
      (holdResolves (.marker frame arrival) p = true ↔
        ∃ m, heardMarker frame p = some m ∧ (p.ctl.acq = .locked ∨ p.ctl.acq = .holdover) ∧ p.queue.hold ≠ none ∧
          ∃ e ∈ p.queue.entries, classOf (kindOf e.body) = .emergency ∧ e.st = .sent)))

/-- With tags that differ: a frame that fits neither as the queue stands nor with every WAITING entry of strictly lower
class evicted is refused and changes nothing; otherwise those entries are evicted in reverse queue order, as few as
make a place of 12 and the granules free, and the frame stands after the entries not below its class, WAITING without
attempts, with a window of 2 and a counter below it, the first free tag from the pointer, which moves past it, the
lowest free granules, and its body's bytes in them; one of class EMERGENCY or URGENT wakes a parked controller. A
STATUS that finds a WAITING one takes its place with the new body and a renewed expiry, in its granule, and nothing
else changes. A BEACON or CANCEL that finds an emergency entry not SENT takes its place and tag, new in every other
field; behind a SENT one it goes into the hold; otherwise it is admitted. Each kind has its class, attempt limit and
lifetime, each class its rank and the stop of its window; a body of n bytes takes ceil(n/16) granules, free are those
of 0 to 127 that no entry lists, and that every body has a byte at least is the model's choice (log 7). -/
def Obligations.QueueAdmission : Prop :=
  let rank (b : Body) : Nat := classRank (classOf (kindOf b))
  let room (b : Body) (es : List Entry) : Prop := es.length < 12 ∧ granuleCount b ≤ (freeGranules es).length
  let isNew (e : Entry) (b : Body) (p : Part) : Prop :=
    e.body = b ∧ e.size = bodySize b ∧ e.st = .waiting ∧ e.attempts = 0 ∧ e.lastCause = none ∧ e.window = 2 ∧
    e.counter < 2 ∧ e.queuedAt = p.ctl.cycle ∧ e.mark = none
  (∀ (b : Body) (source expiry : Option Nat) (p : Part) (candidates : List Entry), tagsDistinct p →
    candidates = (p.queue.entries.filter (fun e => decide (e.st = .waiting) && decide (rank b < rank e.body))).reverse →
    let left (n : Nat) : List Entry :=
      p.queue.entries.filter (fun e => !(candidates.take n).any (fun c => c.tag == e.tag))
    (¬ room b (left candidates.length) → admitQueue b source expiry p = (p, [], false)) ∧
    (∀ n, n ≤ candidates.length → room b (left n) → (∀ m, m < n → ¬ room b (left m)) →
      ∃ q e before after i, admitQueue b source expiry p = (q, candidates.take n, true) ∧ isNew e b p ∧
        e.source = source ∧ e.expiry = expiry ∧ e.granules = (freeGranules (left n)).take (granuleCount b) ∧
        i < 16 ∧ e.tag = (p.queue.tagPtr + i) % 16 ∧ (∀ x ∈ left n, x.tag ≠ e.tag) ∧
        (∀ j, j < i → ∃ x ∈ left n, x.tag = (p.queue.tagPtr + j) % 16) ∧ q.queue.tagPtr = (e.tag + 1) % 16 ∧
        left n = before ++ after ∧ q.queue.entries = before ++ e :: after ∧ (∀ x ∈ before, rank x.body ≤ rank b) ∧
        (∀ x, after.head? = some x → rank b < rank x.body) ∧
        (p.queue.store.length = 128 → entryBytes e q = bodyBytes b) ∧
        (if isLowClass (classOf (kindOf b)) then q.ctl = p.ctl else q.ctl.acq ≠ .parked) ∧
        q.queue.hold = p.queue.hold ∧ q.queue.fault = p.queue.fault ∧
        Part.changesOnly [.queue, .draws, .ctl, .port] p q)) ∧
  (∀ (b : StatusBody) (p : Part) (e : Entry), tagsDistinct p →
    p.queue.entries.find? (fun x => decide (kindOf x.body = .status) && decide (x.st = .waiting)) = some e →
    ∃ f, f = { e with body := .status b, size := bodySize (.status b),
                      expiry := some ((p.ctl.cycle + p.mgmt.params.lifeStatus) % 4096) } ∧
      (offerStatus b p).queue.entries = p.queue.entries.map (fun x => if x.tag = e.tag then f else x) ∧
      (p.queue.store.length = 128 → ∀ g, e.granules = [g] → g < 128 → entryBytes f (offerStatus b p) = bodyBytes (.status b)) ∧
      Part.changesOnly [.queue] p (offerStatus b p)) ∧
  (∀ (b : StatusBody) (p : Part),
    (∀ x ∈ p.queue.entries, kindOf x.body = .status → x.st ≠ .waiting) →
    offerStatus b p =
      (admitEntry (.status b) none (some ((p.ctl.cycle + p.mgmt.params.lifeStatus) % 4096)) p).1) ∧
  (∀ (b : Body) (p : Part), classOf (kindOf b) = .emergency →
    (∀ e, p.queue.entries.find? (fun x => decide (classOf (kindOf x.body) = .emergency) && decide (x.st ≠ .sent)) = some e →
      ∃ f, isNew f b p ∧ f.tag = e.tag ∧ f.uid = e.uid ∧ f.expiry = none ∧
        (tagsDistinct p →
          (offerEmergency b p).queue.entries = p.queue.entries.map (fun x => if x.tag = e.tag then f else x)) ∧
        (offerEmergency b p).queue.hold = p.queue.hold ∧ (offerEmergency b p).ctl.acq ≠ .parked ∧
        Part.changesOnly [.queue, .draws, .ctl, .port] p (offerEmergency b p)) ∧
    ((∀ x ∈ p.queue.entries, classOf (kindOf x.body) = .emergency → x.st = .sent) →
      ((∃ x ∈ p.queue.entries, classOf (kindOf x.body) = .emergency) →
        offerEmergency b p = p.setQueue { p.queue with hold := some b }) ∧
      ((∀ x ∈ p.queue.entries, classOf (kindOf x.body) ≠ .emergency) →
        offerEmergency b p = (admitEntry b none none p).1))) ∧
  (∀ (k : Kind) (c : ChannelParams) (cls : AccessClass),
    classOf k =
      (match k with
        | .beacon | .cancel => .emergency
        | .bid | .awardDecline => .urgent
        | .status | .text | .messageReply | .readReceipt | .reply => .routine
        | .trip | .shiftSummary => .bulk) ∧
    attemptLimit c k =
      (match k with
        | .beacon | .cancel => none
        | .bid => some c.limitBid
        | .awardDecline => some c.limitDecline
        | .status | .reply => some c.limitStatus
        | .text | .messageReply | .readReceipt => some c.limitText
        | .trip | .shiftSummary => some c.limitTrip) ∧
    lifetime c k =
      (match k with
        | .beacon | .cancel | .bid => none
        | .awardDecline => some c.lifeDecline
        | .status | .reply => some c.lifeStatus
        | .text | .messageReply | .readReceipt => some c.lifeText
        | .trip | .shiftSummary => some c.lifeTrip) ∧
    windowCap cls = (if cls = .emergency then 4 else 32) ∧
    classRank cls = (match cls with | .emergency => 0 | .urgent => 1 | .routine => 2 | .bulk => 3) ∧
    (isLowClass cls = true ↔ cls = .routine ∨ cls = .bulk)) ∧
  (∀ (b : Body) (es : List Entry),
    granuleCount b = (bodySize b + 15) / 16 ∧ 1 ≤ bodySize b ∧ (freeGranules es).Pairwise (fun g h => g < h) ∧
    (∀ g, g ∈ freeGranules es ↔ g < 128 ∧ ∀ e ∈ es, g ∉ e.granules))

/-- For a queue of one entry whose expiry cycle has passed, at a signalled cycle start: a WAITING entry without an attempt
leaves with NO_SLOT, one with attempts leaves with its last cause, a RESERVING or GRANTED one leaves with NO_GRANT;
each is a HARD fault that is offered to the record and sets the flag of its cause. A SENT entry not given up stays
with the mark EXPIRED and is no fault. That the signal is taken once, and that the row without a signal changes
nothing, is the model's choice (log 10). What else changes is named. -/
def Obligations.LifetimesExpire : Prop :=
  (∀ (s : State) (e : Entry) (d : Nat) (cause : Cause), s.part.sig.queue = true → s.part.queue.entries = [e] →
    e.expiry = some d → cyclePassed s.part.ctl.cycle d = true →
    ((e.st = .waiting ∧ e.attempts = 0 ∧ cause = .noSlot) ∨
      (e.st = .waiting ∧ e.attempts ≠ 0 ∧ e.lastCause = some cause) ∨
      ((e.st = .reserving ∨ e.st = .granted) ∧ cause = .noGrant)) →
    ∃ q, exec .entryLifetimeExpiry s = .next { s with part := q } ∧
      q.queue.fault =
        latchFault s.part.queue.fault
          ⟨true, kindOf e.body, classOf (kindOf e.body), e.tag, e.source, cause, e.attempts, s.part.ctl.cycle, false⟩ ∧
      flagOf q (causeFlag cause) = true ∧ (∀ x ∈ q.queue.entries, x.st = .waiting ∧ x.attempts = 0) ∧
      q.sig = { s.part.sig with queue := false } ∧
      Part.changesOnly [.sig, .queue, .mgmt, .draws, .port, .offers, .log] s.part q) ∧
  (∀ (s : State) (e : Entry) (d : Nat), s.part.sig.queue = true → s.part.queue.entries = [e] →
    e.expiry = some d → cyclePassed s.part.ctl.cycle d = true → e.st = .sent → e.mark ≠ some .withdrawn →
    ∃ q, exec .entryLifetimeExpiry s = .next { s with part := q } ∧
      q.queue = { s.part.queue with entries := [{ e with mark := some .expired }] } ∧
      Part.changesOnly [.sig, .queue] s.part q) ∧
  (∀ s : State, s.part.sig.queue = false → exec .entryLifetimeExpiry s = .next s)

/-- At the start of a slot with a scheduled pair, in LOCKED: in every case below the pair and the entry's other slots
leave the schedule, and nothing else of the controller changes. A WAITING entry on an open slot with a body of 1 to 32
bytes is SENT in one burst of that slot; a longer one is RESERVING and sends a reservation request for its slots; a
GRANTED entry on its grant is SENT in all its parts, part i in the commanded slot + i (at a later slot of a grant
whose first was never commanded: the model's choice, log 46), with the bytes that its granules hold; each release
counts one attempt, and a SENT entry has a window of 2. Every burst carries the cab's fleet and address, the tag, kind
and class, and at most 32 bytes. An entry of another state, and a ROUTINE or BULK one on an open slot in ALERT,
transmits nothing and stays. A GRANTED ROUTINE or BULK entry at its grant in ALERT transmits nothing and fails the
attempt with NO_GRANT: below its limit it returns to WAITING with a doubled window and a counter below it, at its
limit it leaves with a HARD fault and LINK_NO_GRANT. A pair whose entry has left the queue leaves the schedule and
nothing else changes. A slot without a pair changes nothing. -/
def Obligations.SlotsReleaseBursts : Prop :=
  let counted (st : EntryState) (t : Nat) (es : List Entry) : List Entry :=
    es.map (fun x => if x.tag = t then
      { x with st := st, attempts := min 255 (x.attempts + 1), ackWindow := if st = .sent then 2 else 0, grantWait := 0 } else x)
  let headed (b : Burst) (slot : Nat) (e : Entry) (p : Part) : Prop :=
    b.slot = slot ∧ b.fleet = p.mgmt.identity.fleet ∧ b.addr = p.mgmt.identity.addr ∧ b.tag = e.tag ∧
    b.kind = kindOf e.body ∧ b.cls = classOf (kindOf e.body) ∧
    b.longWait = cycleLater p.ctl.cycle ((e.queuedAt + 20) % 4096)
  let scheduled (s : State) (slot : Nat) (u : SlotUse) (e : Entry) : Prop :=
    s.part.ctl.acq = .locked ∧ s.part.ctl.schedule.find? (fun v => v.slot == slot) = some u ∧
    s.part.queue.entries.find? (fun x => x.uid == u.uid) = some e
  let held (e : Entry) (p : Part) : Prop := isLowClass (classOf (kindOf e.body)) = true ∧ p.emg.state = .alert
  (∀ (s : State) (slot : Nat) (u : SlotUse) (e : Entry), scheduled s slot u e → ¬ held e s.part →
    (u.granted = false → e.st = .waiting → 1 ≤ e.size → e.size ≤ 32 →
      ∃ q b, exec (.slotStart slot) s = .next { s with part := q } ∧
        q.queue = { s.part.queue with entries := counted .sent e.tag s.part.queue.entries } ∧ q.air = [b] ∧
        headed b slot e s.part ∧ b.part = .data 0 1 ∧ b.bytes = (entryBytes e s.part).take 32 ∧
        q.ctl = { s.part.ctl with schedule := s.part.ctl.schedule.filter (fun v => v.uid != u.uid) } ∧
        Part.changesOnly [.ctl, .queue, .air] s.part q) ∧
    (u.granted = false → e.st = .waiting → 32 < e.size →
      ∃ q b, exec (.slotStart slot) s = .next { s with part := q } ∧
        q.queue = { s.part.queue with entries := counted .reserving e.tag s.part.queue.entries } ∧ q.air = [b] ∧
        headed b slot e s.part ∧ b.part = .reservation ((e.size + 31) / 32) ∧ b.bytes = [] ∧
        q.ctl = { s.part.ctl with schedule := s.part.ctl.schedule.filter (fun v => v.uid != u.uid) } ∧
        Part.changesOnly [.ctl, .queue, .air] s.part q) ∧
    (u.granted = true → e.st = .granted →
      ∃ q, exec (.slotStart slot) s = .next { s with part := q } ∧
        q.queue = { s.part.queue with entries := counted .sent e.tag s.part.queue.entries } ∧
        q.air.length = (e.size + 31) / 32 ∧
        q.ctl = { s.part.ctl with schedule := s.part.ctl.schedule.filter (fun v => v.uid != u.uid) } ∧
        (∀ i b, q.air[i]? = some b → headed b (slot + i) e s.part ∧ b.part = .data i ((e.size + 31) / 32) ∧
          b.bytes = ((entryBytes e s.part).drop (32 * i)).take 32) ∧
        Part.changesOnly [.ctl, .queue, .air] s.part q)) ∧
  (∀ (s : State) (slot : Nat) (u : SlotUse) (e : Entry), scheduled s slot u e →
    ((u.granted = false ∧ (e.st ≠ .waiting ∨ held e s.part)) ∨ (u.granted = true ∧ e.st ≠ .granted)) →
    ∃ q, exec (.slotStart slot) s = .next { s with part := q } ∧
      q.ctl = { s.part.ctl with schedule := s.part.ctl.schedule.filter (fun v => v.uid != u.uid) } ∧
      Part.changesOnly [.ctl] s.part q) ∧
  (∀ (s : State) (slot : Nat) (u : SlotUse) (e : Entry), scheduled s slot u e → held e s.part →
    ∃ q, exec (.slotStart slot) s = .next { s with part := q } ∧ q.air = s.part.air ∧
      q.ctl = { s.part.ctl with schedule := s.part.ctl.schedule.filter (fun v => v.uid != u.uid) }) ∧
  (∀ (s : State) (slot : Nat) (u : SlotUse) (e : Entry), scheduled s slot u e → held e s.part → u.granted = true →
    e.st = .granted → e.mark = none → findTag e.tag s.part.queue.entries = some e →
    (kindOf e.body = .status →
      ∀ x ∈ s.part.queue.entries, x.tag ≠ e.tag → kindOf x.body = .status → x.st ≠ .waiting) →
    ∃ q, exec (.slotStart slot) s = .next { s with part := q } ∧
      ((∀ n, attemptLimit s.part.mgmt.params (kindOf e.body) = some n → e.attempts < n) →
        ∃ c, (0 < e.window → c < min 32 (2 * e.window)) ∧
          q.queue =
            { s.part.queue with
              entries :=
                s.part.queue.entries.map (fun x => if x.tag = e.tag then
                  { x with st := .waiting, lastCause := some .noGrant, window := min 32 (2 * e.window), counter := c,
                           ackWindow := 0, grantWait := 0 } else x) } ∧
          Part.changesOnly [.ctl, .queue, .draws] s.part q) ∧
      (∀ n, attemptLimit s.part.mgmt.params (kindOf e.body) = some n → n ≤ e.attempts →
        e ∉ q.queue.entries ∧ flagOf q .linkNoGrant = true ∧
        q.queue.fault =
          latchFault s.part.queue.fault
            ⟨true, kindOf e.body, classOf (kindOf e.body), e.tag, e.source, .noGrant, e.attempts, s.part.ctl.cycle, false⟩ ∧
        Part.changesOnly [.ctl, .queue, .draws, .mgmt, .port, .log] s.part q)) ∧
  (∀ (s : State) (slot : Nat), (∀ v ∈ s.part.ctl.schedule, v.slot ≠ slot) → exec (.slotStart slot) s = .next s) ∧
  (∀ (s : State) (slot : Nat) (u : SlotUse), s.part.ctl.acq = .locked →
    s.part.ctl.schedule.find? (fun v => v.slot == slot) = some u → (∀ e ∈ s.part.queue.entries, e.uid ≠ u.uid) →
    ∃ q, exec (.slotStart slot) s = .next { s with part := q } ∧
      q.ctl = { s.part.ctl with schedule := s.part.ctl.schedule.filter (fun v => v.uid != u.uid) } ∧
      Part.changesOnly [.ctl] s.part q)

/-- When the ignition turns on, the line is on, the ignition-off time is 0, and a parked controller enters HOLDOVER with
no missed marker, keeping its cycle, with a LINK notice (placed with the overflow mark, which it clears, or, where the
list holds 32 notices, discarded with the mark set), while any other state stays; when it turns off the line is off
and nothing else changes; each whole second with it off raises the off time by one up to 300 and changes nothing else.
That turning on a line that is on, and a tick while it is on, change nothing is the model's choice (log 27). -/
def Obligations.IgnitionLine : Prop :=
  (∀ s : State, s.part.lines.ignition = false →
    ∃ q, exec .ignitionOn s = .next { s with part := q } ∧ q.lines = { s.part.lines with ignition := true } ∧
      q.ctl =
        (if s.part.ctl.acq = .parked then { s.part.ctl with acq := .holdover, missed := 0, offTime := 0 }
         else { s.part.ctl with offTime := 0 }) ∧
      (s.part.ctl.acq = .parked → notified (.link .holdover s.part.ctl.cycle) s.part q) ∧
      (s.part.ctl.acq ≠ .parked → q.port = s.part.port) ∧
      Part.changesOnly [.lines, .ctl, .port] s.part q) ∧
  (∀ s : State, s.part.lines.ignition = true → exec .ignitionOn s = .next s) ∧
  (∀ s : State, ∃ q, exec .ignitionOff s = .next { s with part := q } ∧
    q.lines = { s.part.lines with ignition := false } ∧ Part.changesOnly [.lines] s.part q) ∧
  (∀ s : State, s.part.lines.ignition = false →
    ∃ q, exec .ignitionOffTick s = .next { s with part := q } ∧
      q.ctl = { s.part.ctl with offTime := min 300 (s.part.ctl.offTime + 1) } ∧ Part.changesOnly [.ctl] s.part q) ∧
  (∀ s : State, s.part.lines.ignition = true → exec .ignitionOffTick s = .next s)

/-- LOAD (GROUPS) of at most 8 numbers: the group table holds exactly the numbers of the list in 1 to 250, each once; a
longer list changes nothing. LOAD (CANNED) of 1 to 8 entries: each is written at its index within the table, one above
40 characters as empty, the other indices keep their contents; an empty or longer list changes nothing. LOAD
(CHANNEL): each present item is held to its range (L 500 to 4,000, attempt limits 1 to 15, lifetimes 1 to 1,000), each
absent one keeps its value. -/
def Obligations.TablesAreLoaded : Prop :=
  let item (lo hi : Nat) (new : Option Nat) (old : Nat) : Nat :=
    match new with
    | none => old
    | some v => max lo (min hi v)
  (∀ (s : State) (h : AirHeader) (gs : List Nat), framePasses h s.part = true → gs.length ≤ 8 →
    ∃ q, exec (.loadGroups h gs) s = .next { s with part := q } ∧
      (∀ g, g ∈ q.ctl.groups ↔ g ∈ gs ∧ 1 ≤ g ∧ g ≤ 250) ∧ q.ctl.groups.Nodup ∧
      q.ctl = { s.part.ctl with groups := q.ctl.groups } ∧ Part.changesOnly [.ctl] s.part q) ∧
  (∀ (s : State) (h : AirHeader) (gs : List Nat), 8 < gs.length → exec (.loadGroups h gs) s = .next s) ∧
  (∀ (s : State) (h : AirHeader) (first : Nat) (ts : List Text), framePasses h s.part = true → 1 ≤ ts.length →
    ts.length ≤ 8 →
    ∃ q, exec (.loadCanned h first ts) s = .next { s with part := q } ∧
      q.msgs.canned.length = s.part.msgs.canned.length ∧
      (∀ i t, ts[i]? = some t → first + i < s.part.msgs.canned.length →
        q.msgs.canned[first + i]? = some (if 40 < t.length then [] else t)) ∧
      (∀ j, (j < first ∨ first + ts.length ≤ j) → q.msgs.canned[j]? = s.part.msgs.canned[j]?) ∧
      q.msgs = { s.part.msgs with canned := q.msgs.canned } ∧ Part.changesOnly [.msgs] s.part q) ∧
  (∀ (s : State) (h : AirHeader) (first : Nat) (ts : List Text), (ts = [] ∨ 8 < ts.length) →
    exec (.loadCanned h first ts) s = .next s) ∧
  (∀ (s : State) (h : AirHeader) (i : ChannelLoad), framePasses h s.part = true →
    ∃ q, exec (.loadChannel h i) s = .next { s with part := q } ∧
      q.mgmt =
        { s.part.mgmt with
          params :=
            { len := item 500 4000 i.len s.part.mgmt.params.len
              limitBid := item 1 15 i.limitBid s.part.mgmt.params.limitBid
              limitDecline := item 1 15 i.limitDecline s.part.mgmt.params.limitDecline
              limitStatus := item 1 15 i.limitStatus s.part.mgmt.params.limitStatus
              limitText := item 1 15 i.limitText s.part.mgmt.params.limitText
              limitTrip := item 1 15 i.limitTrip s.part.mgmt.params.limitTrip
              lifeDecline := item 1 1000 i.lifeDecline s.part.mgmt.params.lifeDecline
              lifeStatus := item 1 1000 i.lifeStatus s.part.mgmt.params.lifeStatus
              lifeText := item 1 1000 i.lifeText s.part.mgmt.params.lifeText
              lifeTrip := item 1 1000 i.lifeTrip s.part.mgmt.params.lifeTrip } } ∧
      Part.changesOnly [.mgmt] s.part q)

/-- A FAILED report for an entry: one marked WITHDRAWN leaves without a report; a STATUS behind which another STATUS waits
leaves without a report; an emergency entry with a frame in the hold is replaced in place by that frame, WAITING
without attempts, and the hold is empty; one marked EXPIRED, or whose attempt limit is reached, leaves with a HARD
fault and is reported FAILED; any other returns to WAITING with the cause, a doubled window up to the class's stop,
and a counter below it. The other entries stay as they are. An empty record takes any fault offered; a SOFT fault
never changes a record that holds one; a HARD fault overwrites a SOFT one and only sets the second-fault flag of a
HARD one. So after faults are offered in turn to an empty record, it holds the first HARD one, with the second-fault
flag set exactly when there were two or more, and the first fault when none was HARD. -/
def Obligations.FailedAttemptsSettle : Prop :=
  (∀ (t : Nat) (cause : Cause) (p : Part) (e : Entry), findTag t p.queue.entries = some e →
    let q := (settleFail t cause p).1
    let rs := (settleFail t cause p).2
    let others := p.queue.entries.filter (fun x => x.tag != t)
    let behind := kindOf e.body = .status ∧
      ∃ x ∈ p.queue.entries, x.tag ≠ t ∧ kindOf x.body = .status ∧ x.st = .waiting
    let hard := q.queue.entries = others ∧ rs = [⟨kindOf e.body, e.source, .failed⟩] ∧
      flagOf q (causeFlag cause) = true ∧
      q.queue.fault =
        latchFault p.queue.fault
          ⟨true, kindOf e.body, classOf (kindOf e.body), t, e.source, cause, e.attempts, p.ctl.cycle, false⟩
    (e.mark = some .withdrawn → q.queue.entries = others ∧ rs = [] ∧ q.mgmt = p.mgmt) ∧
    (e.mark ≠ some .withdrawn → behind → q.queue.entries = others ∧ rs = [] ∧ q.mgmt = p.mgmt) ∧
    (e.mark ≠ some .withdrawn → classOf (kindOf e.body) = .emergency → ∀ b, p.queue.hold = some b →
      q.queue.hold = none ∧ rs = [] ∧
      ∃ f, f.body = b ∧ f.st = .waiting ∧ f.attempts = 0 ∧ f.lastCause = none ∧ f.window = 2 ∧ f.counter < 2 ∧
        f.tag = t ∧ f.uid = e.uid ∧
        ((p.queue.entries.map (fun x => x.tag)).Nodup →
          q.queue.entries = p.queue.entries.map (fun x => if x.tag = t then f else x))) ∧
    (e.mark = some .expired → ¬ behind → (classOf (kindOf e.body) ≠ .emergency ∨ p.queue.hold = none) → hard) ∧
    (e.mark = none → ¬ behind → (classOf (kindOf e.body) ≠ .emergency ∨ p.queue.hold = none) →
      (∀ n, attemptLimit p.mgmt.params (kindOf e.body) = some n → n ≤ e.attempts → hard) ∧
      ((∀ n, attemptLimit p.mgmt.params (kindOf e.body) = some n → e.attempts < n) →
        rs = [] ∧ q.mgmt = p.mgmt ∧ ∃ c, (0 < e.window → c < min (windowCap (classOf (kindOf e.body))) (2 * e.window)) ∧
          ((p.queue.entries.map (fun x => x.tag)).Nodup →
            q.queue.entries =
              p.queue.entries.map (fun x => if x.tag = t then
                { e with st := .waiting, lastCause := some cause,
                         window := min (windowCap (classOf (kindOf e.body))) (2 * e.window), counter := c,
                         ackWindow := 0, grantWait := 0 } else x))))) ∧
  (∀ f : LinkFault, latchFault none f = some f) ∧
  (∀ r f : LinkFault, f.hard = false → latchFault (some r) f = some r) ∧
  (∀ r f : LinkFault, f.hard = true → r.hard = false → latchFault (some r) f = some f) ∧
  (∀ r f : LinkFault, f.hard = true → r.hard = true → latchFault (some r) f = some { r with second := true }) ∧
  (∀ (fs : List LinkFault), (∀ f ∈ fs, f.second = false) →
    ((∀ f ∈ fs, f.hard = false) → fs.foldl latchFault none = fs.head?) ∧
    (∀ (before after : List LinkFault) (f : LinkFault), fs = before ++ f :: after → f.hard = true →
      (∀ x ∈ before, x.hard = false) →
      fs.foldl latchFault none = some { f with second := after.any (fun x => x.hard) }))

/-- The report of a BID moves the ACCEPTED offer it names: BID_SENT when acknowledged; CLOSED when it failed, with EXPIRED
past the deadline and NOT_SENT before; PRESENTED with a bid-not-sent notice when evicted (in every emergency state:
the model's choice, log 39); any other state is left. That of a TRIP marks a QUEUED record DELIVERED, with that change
for the log update, or UNDELIVERED, and unless evicted is followed by a delivery offer; that of a summary empties a
QUEUED one or makes it PENDING; that of a TEXT sends TEXT_RESULT DELIVERED, FAILED or QUEUE_FULL, that of a MESSAGE
REPLY only the last two; an acknowledged BEACON or CANCEL sets the next frame cycle 4, 15 or 4 cycles on by ALERT,
TRACKING or CANCEL_PENDING, in ARMING by the return state; others do nothing. Evictions are so reported, in order,
before an admission is answered. A delivery offer queues nothing while 2 records are QUEUED or none is UNDELIVERED. At
the cycle start of a missed marker in SEARCH, and of a missed or heard marker with an empty queue in any state, the
oldest UNDELIVERED record is queued while fewer than 2 are QUEUED, and, when none is UNDELIVERED, a PENDING summary
is, given room (that the offers are made at the end of the event, the records before the summary, is the model's
choice, log 11). -/
def Obligations.ReportsReachSources : Prop :=
  let cycleStarts (c : Instr) (p : Part) : Prop :=
    (c = .missedMarkerEvent ∧ (p.ctl.acq = .search ∨ (p.queue.entries = [] ∧ p.queue.hold = none))) ∨
    (∃ frame arrival m, c = .marker frame arrival ∧ heardMarker frame p = some m ∧ m.cycle ≠ p.ctl.cycle ∧
      p.queue.entries = [] ∧ p.queue.hold = none)
  let moved (p q : Part) (id : Nat) (x : Offer) (st : OfferState) (notSent : Bool) : Prop :=
    q.offers = p.offers.map (fun y => if y.id = id then x else y) ∧ x.state = st ∧
    (noticeRoom p → ∃ b, notices q = notices p ++ [.notice (.offerState b) p.port.overflow] ∧ b.id = id ∧ b.state = st ∧
      b.bidNotSent = notSent) ∧
    Part.changesOnly [.offers, .port] p q
  (∀ (p : Part) (id : Nat) (e : Offer), findOffer id p.offers = some e →
    (e.state = .accepted →
      moved p (actOnReport ⟨.bid, some id, .acknowledged⟩ p) id { e with state := .bidSent } .bidSent false ∧
      moved p (actOnReport ⟨.bid, some id, .failed⟩ p) id
        (closedOffer (if cyclePassed p.ctl.cycle e.deadline then .expired else .notSent) none e) .closed false ∧
      moved p (actOnReport ⟨.bid, some id, .evicted⟩ p) id { e with state := .presented } .presented true) ∧
    (e.state ≠ .accepted → ∀ o, actOnReport ⟨.bid, some id, o⟩ p = p)) ∧
  (∀ (p : Part) (n : Nat) (r : TripRecord), findRecord n p.log.records = some r →
    (r.delivery = .queued →
      actOnReport ⟨.trip, some n, .acknowledged⟩ p =
        deliveryOffer
          (p.setLog
            { p.log with
              records := p.log.records.map (fun x => if x.number = n then { x with delivery := .delivered } else x),
              inFlight := (match p.log.inFlight with | none => some [.delivered n] | some cs => some cs),
              waiting :=
                (match p.log.inFlight with | none => p.log.waiting | some _ => p.log.waiting ++ [.delivered n]) }) ∧
      findRecord n (actOnReport ⟨.trip, some n, .acknowledged⟩ p).log.records = some { r with delivery := .delivered } ∧
      (p.log.inFlight = none →
        (actOnReport ⟨.trip, some n, .acknowledged⟩ p).log.inFlight = some [.delivered n]) ∧
      (p.log.inFlight ≠ none →
        (actOnReport ⟨.trip, some n, .acknowledged⟩ p).log.waiting = p.log.waiting ++ [.delivered n]) ∧
      findRecord n (actOnReport ⟨.trip, some n, .evicted⟩ p).log.records = some { r with delivery := .undelivered } ∧
      Part.changesOnly [.log] p (actOnReport ⟨.trip, some n, .evicted⟩ p) ∧
      actOnReport ⟨.trip, some n, .failed⟩ p = deliveryOffer (actOnReport ⟨.trip, some n, .evicted⟩ p)) ∧
    (r.delivery ≠ .queued → ∀ o, actOnReport ⟨.trip, some n, o⟩ p = p)) ∧
  (∀ (p : Part) (v : ShiftSummary), p.log.summary = some (v, .queued) →
    (actOnReport ⟨.shiftSummary, none, .acknowledged⟩ p).log = { p.log with summary := none } ∧
    (∀ o, o ≠ .acknowledged →
      (actOnReport ⟨.shiftSummary, none, o⟩ p).log = { p.log with summary := some (v, .pending) }) ∧
    (∀ o, Part.changesOnly [.log] p (actOnReport ⟨.shiftSummary, none, o⟩ p))) ∧
  (∀ (p : Part) (n : Nat), noticeRoom p →
    (∀ (o : EntryOutcome) (x : TextResult),
      x = (match o with
        | .acknowledged => .delivered
        | .failed => .failed
        | .evicted => .queueFull) →
      notices (actOnReport ⟨.text, some n, o⟩ p) = notices p ++ [.notice (.textResult .text n x) p.port.overflow] ∧
      (o ≠ .acknowledged →
        notices (actOnReport ⟨.messageReply, some n, o⟩ p) =
          notices p ++ [.notice (.textResult .reply n x) p.port.overflow])) ∧
    actOnReport ⟨.messageReply, some n, .acknowledged⟩ p = p) ∧
  (∀ (p : Part) (k : Kind) (n : Nat), (k = .beacon ∨ k = .cancel) →
    (n = (match frameState p.emg with
        | .tracking => 15
        | .alert => 4
        | .cancelPending => 4
        | .idle => 0
        | .arming => 0) →
      frameState p.emg ≠ .idle → frameState p.emg ≠ .arming →
      actOnReport ⟨k, none, .acknowledged⟩ p =
        p.setEmg { p.emg with nextFrame := some ((p.ctl.cycle + n) % 4096) }) ∧
    (∀ o, (o ≠ .acknowledged ∨ frameState p.emg = .idle) → actOnReport ⟨k, none, o⟩ p = p)) ∧
  (∀ (p : Part) (k : Kind) (source : Option Nat) (o : EntryOutcome),
    (k = .awardDecline ∨ k = .status ∨ k = .readReceipt ∨ k = .reply) → actOnReport ⟨k, source, o⟩ p = p) ∧
  (∀ (b : Body) (source expiry : Option Nat) (p : Part),
    admitEntry b source expiry p =
      ((admitQueue b source expiry p).2.1.foldl (fun q e => actOnReport ⟨kindOf e.body, e.source, .evicted⟩ q)
          (admitQueue b source expiry p).1,
        (admitQueue b source expiry p).2.2)) ∧
  (∀ p : Part, (2 ≤ queuedCount p.log.records ∨ ∀ r ∈ p.log.records, r.delivery ≠ .undelivered) → deliveryOffer p = p) ∧
  (∀ (s : State) (c : Instr) (before after : List TripRecord) (r : TripRecord), cycleStarts c s.part →
    signalsTaken s.part →
    queuedCount s.part.log.records < 2 → s.part.log.records = before ++ r :: after → r.delivery = .undelivered →
    (∀ x ∈ before, x.delivery ≠ .undelivered) → (s.part.log.records.map (fun x => x.number)).Nodup →
    roomFor (tripBody r) s.part →
    ∃ q, exec c s = .next { s with part := q } ∧ holdsEntry (tripBody r) (some r.number) .waiting q ∧
      findRecord r.number q.log.records = some { r with delivery := .queued } ∧ queuedCount q.log.records ≤ 2) ∧
  (∀ (s : State) (c : Instr) (v : ShiftSummary), cycleStarts c s.part → signalsTaken s.part →
    (∀ r ∈ s.part.log.records, r.delivery ≠ .undelivered) → s.part.log.summary = some (v, .pending) →
    (roomFor (.shiftSummary v) s.part →
      ∃ q, exec c s = .next { s with part := q } ∧ holdsEntry (.shiftSummary v) none .waiting q ∧
        q.log.summary = some (v, .queued)) ∧
    (queueFull .bulk s.part →
      ∃ q, exec c s = .next { s with part := q } ∧ q.queue = s.part.queue ∧ q.log = s.part.log))

/-- For every marker whose fields fit the layout and the limits of the spec, the frame written from it (header, contents,
CRC) is read as exactly that marker: fleet, cycle, time-of-day, day class, restricted flag, open slots,
acknowledgement pairs, grants and pages. For every request number and item code of one byte and every body of at most
400 bytes, the REQUEST envelope written from them passes the port's check and is read as exactly them. A trip record's
bytes hold its fields at the layout's places, 48 of them with 4 for each extra and 6 for each usage entry; a burst is
six header bytes (fleet, address and tag, kind and class bits, part, byte count), its body and the CRC; a response or
notice envelope is six header bytes (type, number, code, response code or overflow bit, body length), its body and the
CRC. -/
def Obligations.LayoutsRoundTrip : Prop :=
  (∀ m : Marker, m.wf = true → readMarker (writeMarker m) = some m) ∧
  (∀ (req item : Nat) (body : List Byte), req ≤ 255 → item ≤ 255 → body.length ≤ 400 →
    readEnvelope (writeRequest req item body) = some (req, item, body)) ∧
  (∀ (r : TripRecord) (at_ : Nat → Nat → Nat), (∀ i k, at_ i k = beNat (((writeTrip r).drop i).take k)) →
    (writeTrip r).length = 48 + 4 * r.extras.length + 6 * r.usage.length ∧
    at_ 0 4 = r.number % 4294967296 ∧ at_ 4 2 = r.shift % 65536 ∧ at_ 6 2 = r.imageVersion % 65536 ∧
    at_ 8 3 = r.startTod % 16777216 ∧ at_ 11 1 = r.startDay % 256 ∧ at_ 12 3 = r.endTod % 16777216 ∧
    at_ 15 1 = r.startZone % 256 ∧ at_ 16 1 = r.endZone % 256 ∧ at_ 17 4 = r.distance % 4294967296 ∧
    at_ 21 3 = r.waiting % 16777216 ∧ at_ 24 3 = r.hiredSeconds % 16777216 ∧ at_ 27 3 = r.metered % 16777216 ∧
    at_ 30 3 = r.extrasTotal % 16777216 ∧ at_ 33 3 = r.charged % 16777216 ∧
    at_ 36 2 =
      (if r.flags.saturated then 1 else 0) + (if r.flags.fixed then 2 else 0) + (if r.flags.capped then 4 else 0) +
        (if r.flags.powerInterrupted then 8 else 0) + (if r.flags.clockFree then 16 else 0) +
        (if r.flags.clockUnset then 32 else 0) + (if r.flags.pulseClamped then 64 else 0) +
        (if r.flags.distanceSuspect then 128 else 0) + (if r.flags.usageTruncated then 256 else 0) +
        4096 * (match r.delivery with | .undelivered => 0 | .queued => 1 | .delivered => 2) ∧
    at_ 38 1 = (if r.jobId.isSome then 128 else 0) + (match r.price with | .unpriced => 0 | .fixed _ => 1 | .cap _ => 2) ∧
    at_ 39 3 = (match r.price with | .unpriced => 0 | .fixed v => v | .cap v => v) % 16777216 ∧
    at_ 42 4 = (match r.jobId with | none => 0 | some j => j.toNat) ∧
    at_ 46 1 = r.extras.length % 256 ∧ at_ 47 1 = r.usage.length % 256 ∧
    (∀ i x, r.extras[i]? = some x →
      at_ (48 + 4 * i) 1 = (x.number * 16 + x.count) % 256 ∧ at_ (49 + 4 * i) 3 = x.subtotal % 16777216) ∧
    (∀ i u j, r.usage[i]? = some u → j = 48 + 4 * r.extras.length + 6 * i →
      at_ j 1 = (u.tariff * 16 + u.area) % 256 ∧ at_ (j + 1) 2 = u.drops % 65536 ∧ at_ (j + 3) 3 = u.start % 16777216)) ∧
  (∀ b : Burst, ∃ head : List Byte, openFrame (writeBurst b) = some (head ++ b.bytes) ∧ head.length = 6 ∧
    beNat (head.take 1) = b.fleet % 256 ∧ beNat ((head.drop 1).take 2) = (b.addr * 16 + b.tag) % 65536 ∧
    beNat ((head.drop 3).take 1) =
      (match b.part with | .data _ _ => 0 | .reservation _ => 128) + (if b.longWait then 64 else 0) +
        16 * (match b.cls with | .emergency => 0 | .urgent => 1 | .routine => 2 | .bulk => 3) +
        (match b.kind with
          | .beacon => 1 | .cancel => 2 | .bid => 3 | .awardDecline => 4 | .status => 5 | .text => 6
          | .messageReply => 7 | .readReceipt => 8 | .reply => 9 | .trip => 10 | .shiftSummary => 11) ∧
    beNat ((head.drop 4).take 1) =
      (match b.part with
        | .data i n => 64 * i + 16 * (n - 1)
        | .reservation n => 16 * (n - 1)) % 256 ∧
    beNat ((head.drop 5).take 1) = b.bytes.length % 256) ∧
  (∀ (o : Outbound) (body : List Byte), ∃ head : List Byte, openFrame (writeEnvelope o body) = some (head ++ body) ∧
    head.length = 6 ∧ beNat ((head.drop 4).take 2) = body.length % 65536 ∧
    (∀ req item code b, o = .response req item code b →
      beNat (head.take 1) = 2 ∧ beNat ((head.drop 1).take 1) = req % 256 ∧ beNat ((head.drop 2).take 1) = item % 256 ∧
      beNat ((head.drop 3).take 1) =
        (match code with
          | .ok => 0 | .refusedState => 1 | .busy => 2 | .busyBid => 3 | .gone => 4 | .notFound => 5 | .limit => 6
          | .queueFull => 7 | .moving => 8 | .locked => 9 | .noTariff => 10 | .bad => 11)) ∧
    (∀ n v, o = .notice n v →
      beNat (head.take 1) = 3 ∧ beNat ((head.drop 1).take 1) = 0 ∧
      beNat ((head.drop 2).take 1) =
        (match n with
          | .offer _ => 1 | .offerState _ => 2 | .meter _ _ _ => 3 | .message _ => 4 | .textResult _ _ _ => 5
          | .link _ _ => 6) ∧
      beNat ((head.drop 3).take 1) = (if v then 1 else 0)))

/-- A press in IDLE, TRACKING or CANCEL_PENDING arms the unit with that return state and starts the hold timer, and in
ALERT or ARMING changes only the line; out of IDLE it wakes a parked controller, with a LINK notice. A release in
ARMING stops the timer and returns to the return state; into TRACKING or CANCEL_PENDING with the next frame cycle
passed it offers the frame of that state, which then stands in the queue when no emergency entry does and there is
room, and otherwise nothing is offered and the next frame cycle stays. Outside ARMING it changes only the line. The
expiry of a running hold timer in ARMING enters ALERT with the next sequence number and the open-alert flag as it was,
wakes a parked controller, and, with no emergency entry in the queue and room, closes every PRESENTED offer with
SUPPRESSED (shown as EXPIRED) and puts a BEACON of the new state in the queue. Rows whose event cannot occur change
nothing (the model's choice, log 27). What else changes is named. -/
def Obligations.SwitchArmsAndAlerts : Prop :=
  let armed (u : EmergencyUnit) (r : ReturnState) : EmergencyUnit := { u with state := .arming, ret := some r, holdRunning := true }
  (∀ s : State, s.part.lines.switch = false →
    ∃ q, exec .switchPress s = .next { s with part := q } ∧ q.lines = { s.part.lines with switch := true } ∧
      (s.part.emg.state = .idle → q.emg = armed s.part.emg .idle ∧
        q.ctl =
          (if s.part.ctl.acq = .parked then { s.part.ctl with acq := .holdover, missed := 0 } else s.part.ctl) ∧
        (s.part.ctl.acq = .parked → notified (.link .holdover s.part.ctl.cycle) s.part q)) ∧
      (s.part.emg.state ≠ .idle ∨ s.part.ctl.acq ≠ .parked → q.port = s.part.port) ∧
      (s.part.emg.state = .tracking → q.emg = armed s.part.emg .tracking ∧ q.ctl = s.part.ctl) ∧
      (s.part.emg.state = .cancelPending → q.emg = armed s.part.emg .cancelPending ∧ q.ctl = s.part.ctl) ∧
      ((s.part.emg.state = .alert ∨ s.part.emg.state = .arming) → q.emg = s.part.emg ∧ q.ctl = s.part.ctl) ∧
      Part.changesOnly [.lines, .emg, .ctl, .port] s.part q) ∧
  (∀ s : State, s.part.lines.switch = true →
    ∃ q, exec .switchRelease s = .next { s with part := q } ∧ q.lines = { s.part.lines with switch := false } ∧
      (∀ r, s.part.emg.state = .arming → s.part.emg.ret = some r →
        q.emg.state =
          (match r with
            | .idle => .idle
            | .tracking => .tracking
            | .cancelPending => .cancelPending) ∧ q.emg.ret = none ∧ q.emg.holdRunning = false ∧
        q.emg.sequence = s.part.emg.sequence ∧ q.emg.openAlert = s.part.emg.openAlert) ∧
      (∀ r d, s.part.emg.state = .arming → s.part.emg.ret = some r → r ≠ .idle → s.part.emg.nextFrame = some d →
        cyclePassed s.part.ctl.cycle d = true →
        q.emg.nextFrame = none ∧ (emergencyRoom s.part → frameQueued q)) ∧
      (∀ r, s.part.emg.state = .arming → s.part.emg.ret = some r →
        (r = .idle ∨ ∀ d, s.part.emg.nextFrame = some d → cyclePassed s.part.ctl.cycle d = false) →
        q.emg.nextFrame = s.part.emg.nextFrame ∧ Part.changesOnly [.lines, .emg] s.part q) ∧
      (s.part.emg.state ≠ .arming → Part.changesOnly [.lines] s.part q) ∧
      Part.changesOnly [.lines, .emg, .queue, .draws, .ctl, .port, .offers, .log] s.part q) ∧
  (∀ s : State, s.part.emg.state = .arming → s.part.emg.holdRunning = true →
    ∃ q, exec .holdTimerExpiry s = .next { s with part := q } ∧
      q.emg = ⟨.alert, none, (s.part.emg.sequence + 1) % 256, s.part.emg.openAlert, none, false⟩ ∧ q.ctl.acq ≠ .parked ∧
      (emergencyRoom s.part →
        holdsEntry (.beacon (beaconBody q)) none .waiting q ∧
        (offersDistinct s.part →
          q.offers = closedWhere (fun o => decide (o.state = .presented)) .suppressed s.part.offers ∧
          ((notices s.part).length + s.part.offers.length + 1 ≤ 32 →
            noticeBodies q =
              noticeBodies s.part ++
                (if s.part.ctl.acq = .parked then [.link .holdover s.part.ctl.cycle] else []) ++
                (s.part.offers.filter (fun o => decide (o.state = .presented))).map (fun o =>
                  .offerState
                    { id := o.id, state := .closed, reason := some .expired, newDeadline := none, withdrawReason := none,
                      bidNotSent := false, award := none })))) ∧
      Part.changesOnly [.emg, .queue, .draws, .ctl, .port, .offers, .log] s.part q) ∧
  (∀ s : State, s.part.lines.switch = true → exec .switchPress s = .next s) ∧
  (∀ s : State, s.part.lines.switch = false → exec .switchRelease s = .next s) ∧
  (∀ s : State, (s.part.emg.state ≠ .arming ∨ s.part.emg.holdRunning = false) → exec .holdTimerExpiry s = .next s)

/-- At a signalled cycle start, with an emergency active outside ARMING and the next frame cycle passed, the frame of the
state is offered (it stands in the queue when no emergency entry does and there is room) and the next frame cycle is
absent; otherwise only the signal is taken. That a signal is taken once, and that the row without one changes nothing,
is the model's choice (log 10). EMERGENCY_CANCEL in ALERT or TRACKING: OK, CANCEL_PENDING with the sequence kept, and
a CANCEL offered in the same way; in any other state REFUSED_STATE and nothing but the port changes. What else changes
is named. A BEACON carries the cab address, the sequence, the emergency state, the meter state, the charged fare (0
without a trip), the trip's start time when one is open, zone and stale flag, the last fix and its age (0, 0 and 255
without one); a CANCEL carries address, sequence, emergency state, meter state, zone and stale flag. In ARMING the
state carried is the return state (the model's reading, log 34). -/
def Obligations.FramesDueAndCancel : Prop :=
  (∀ (s : State) (d : Nat), s.part.sig.emergency = true →
    (s.part.emg.state = .alert ∨ s.part.emg.state = .tracking ∨ s.part.emg.state = .cancelPending) →
    s.part.emg.nextFrame = some d → cyclePassed s.part.ctl.cycle d = true →
    ∃ q, exec .emergencyFrameDue s = .next { s with part := q } ∧ q.emg = { s.part.emg with nextFrame := none } ∧
      q.sig = { s.part.sig with emergency := false } ∧
      (emergencyRoom s.part →
        holdsEntry (if s.part.emg.state = .cancelPending then .cancel (cancelBody q) else .beacon (beaconBody q))
          none .waiting q) ∧
      Part.changesOnly [.sig, .emg, .queue, .draws, .ctl, .port, .offers, .log] s.part q) ∧
  (∀ s : State, s.part.sig.emergency = true →
    (s.part.emg.state = .idle ∨ s.part.emg.state = .arming ∨
      ∀ d, s.part.emg.nextFrame = some d → cyclePassed s.part.ctl.cycle d = false) →
    ∃ q, exec .emergencyFrameDue s = .next { s with part := q } ∧ q.sig = { s.part.sig with emergency := false } ∧
      Part.changesOnly [.sig] s.part q) ∧
  (∀ s : State, s.part.sig.emergency = false → exec .emergencyFrameDue s = .next s) ∧
  (∀ (s : State) (req : Nat), portFree s.part = true → (s.part.emg.state = .alert ∨ s.part.emg.state = .tracking) →
    ∃ q, exec (.emergencyCancel req) s = .next { s with part := q } ∧ answered req 17 .ok .none s.part q ∧
      q.emg = { s.part.emg with state := .cancelPending, nextFrame := none } ∧
      (emergencyRoom s.part → holdsEntry (.cancel (cancelBody q)) none .waiting q) ∧
      Part.changesOnly [.emg, .queue, .draws, .ctl, .port, .offers, .log] s.part q) ∧
  (∀ (s : State) (req : Nat), portFree s.part = true →
    (s.part.emg.state = .idle ∨ s.part.emg.state = .arming ∨ s.part.emg.state = .cancelPending) →
    ∃ q, exec (.emergencyCancel req) s = .next { s with part := q } ∧ answered req 17 .refusedState .none s.part q ∧
      Part.changesOnly [.port] s.part q) ∧
  (∀ (p : Part) (age : Nat), age = (if p.zones.lastFix = none then 255 else p.zones.age) →
    beaconBody p =
      { addr := p.mgmt.identity.addr, sequence := p.emg.sequence, state := frameState p.emg, meter := p.meter.state,
        charged := (match p.meter.trip with | none => 0 | some t => t.fare.charged),
        tripStart := (match p.meter.trip with | none => none | some t => some t.startTod),
        zone := p.zones.zone, stale := p.zones.stale,
        x := (match p.zones.lastFix with | none => 0 | some v => v.1),
        y := (match p.zones.lastFix with | none => 0 | some v => v.2), age := age } ∧
    cancelBody p =
      { addr := p.mgmt.identity.addr, sequence := p.emg.sequence, state := frameState p.emg, meter := p.meter.state,
        zone := p.zones.zone, stale := p.zones.stale }) ∧
  (∀ u : EmergencyUnit,
    (u.state ≠ .arming → frameState u = u.state) ∧
    (u.state = .arming → u.ret = some .tracking → frameState u = .tracking) ∧
    (u.state = .arming → u.ret = some .cancelPending → frameState u = .cancelPending) ∧
    (u.state = .arming → u.ret ≠ some .tracking → u.ret ≠ some .cancelPending → frameState u = .idle))

/-- Addressed CAB with the unit's sequence: EMERGENCY ACK in ALERT moves to TRACKING and puts a present next frame cycle
15 cycles on; OPEN ALERT in an active emergency with the flag clear sets the flag, hands SIGN to the emergency pattern
2 on 2 off and starts the rear lamp at 5 on 5 off; EMERGENCY CLEAR in an active emergency returns to IDLE (in ARMING
to a return state of IDLE) with no frame due and the flag clear, and lamps that were on the alarm return to the
meter's pattern and dark. In any other case each changes nothing. What else changes is named. Addressed ALL or GROUP,
each leaves the whole state as it is in every state. -/
def Obligations.BaseCommandsOfAnEmergency : Prop :=
  let named (s : State) (h : AirHeader) (n : Nat) : Prop := framePasses h s.part = true ∧ h.kind = .cab ∧ n = s.part.emg.sequence
  let active (s : State) : Prop :=
    s.part.emg.state = .alert ∨ s.part.emg.state = .tracking ∨ s.part.emg.state = .cancelPending ∨
    (s.part.emg.state = .arming ∧ (s.part.emg.ret = some .tracking ∨ s.part.emg.ret = some .cancelPending))
  (∀ (s : State) (h : AirHeader) (n : Nat), named s h n → s.part.emg.state = .alert →
    ∃ q, exec (.emergencyAck h n) s = .next { s with part := q } ∧
      q.emg =
        { s.part.emg with
          state := .tracking, nextFrame := s.part.emg.nextFrame.map (fun _ => (s.part.ctl.cycle + 15) % 4096) } ∧
      Part.changesOnly [.emg] s.part q) ∧
  (∀ (s : State) (h : AirHeader) (n : Nat), (n ≠ s.part.emg.sequence ∨ s.part.emg.state ≠ .alert) →
    exec (.emergencyAck h n) s = .next s) ∧
  (∀ (s : State) (h : AirHeader) (n : Nat), named s h n → active s → s.part.emg.openAlert = false →
    ∃ q, exec (.openAlert h n) s = .next { s with part := q } ∧ q.emg = { s.part.emg with openAlert := true } ∧
      q.sign.owner = .openAlert ∧ q.sign.sign.pattern = ⟨2, 2⟩ ∧
      (s.part.sign.owner = .meter → q.sign.sign = ⟨⟨2, 2⟩, true, 2⟩) ∧ q.sign.alert = ⟨⟨5, 5⟩, true, 5⟩ ∧
      q.sign.table = s.part.sign.table ∧ Part.changesOnly [.emg, .sign] s.part q) ∧
  (∀ (s : State) (h : AirHeader) (n : Nat), (n ≠ s.part.emg.sequence ∨ ¬ active s ∨ s.part.emg.openAlert = true) →
    exec (.openAlert h n) s = .next s) ∧
  (∀ (s : State) (h : AirHeader) (n : Nat), named s h n → active s →
    ∃ q, exec (.emergencyClear h n) s = .next { s with part := q } ∧
      q.emg =
        { s.part.emg with
          state := if s.part.emg.state = .arming then .arming else .idle,
          ret := if s.part.emg.state = .arming then some .idle else s.part.emg.ret,
          nextFrame := none, openAlert := false } ∧
      (s.part.emg.openAlert = true →
        q.sign.owner = .meter ∧ q.sign.sign.pattern = signEntry s.part.sign.table s.part.meter.state ∧ alertLit q = false) ∧
      (s.part.emg.openAlert = false → q.sign = s.part.sign) ∧ Part.changesOnly [.emg, .sign] s.part q) ∧
  (∀ (s : State) (h : AirHeader) (n : Nat), (n ≠ s.part.emg.sequence ∨ ¬ active s) →
    exec (.emergencyClear h n) s = .next s) ∧
  (∀ (s : State) (h : AirHeader) (n : Nat), h.kind ≠ .cab →
    exec (.emergencyAck h n) s = .next s ∧ exec (.openAlert h n) s = .next s ∧ exec (.emergencyClear h n) s = .next s)

/-- SET_SIGN_PATTERN for a meter state, with times of 0 to 255, begins the entry's write and stays outstanding without a
response; for no meter state of the six, or with a time above 255 (not of the item's form, log 20): BAD. When the
write completes: OK, that entry of the table is the new one, the others stay, and the SIGN generator has the pattern
its owner gives on the new table. At the end of a phase a blinking generator is in its other phase for that phase's
time, and the other lamp's generator is untouched. That the row leaves a steady or dark generator as it is, phase and
timer, is the model's choice (log 28). What else changes is named. -/
def Obligations.SignPatterns : Prop :=
  (∀ (s : State) (req on off : Nat) (st : MeterState), s.part.port.outstanding = none → on ≤ 255 →
    off ≤ 255 →
    ∃ q, exec (.setSignPattern req (some st) (some (on, off))) s = .next { s with part := q } ∧
      q.sign = { s.part.sign with write := some (st, ⟨on, off⟩) } ∧
      q.port = { s.part.port with outstanding := some ⟨req, 18, false⟩ } ∧ Part.changesOnly [.sign, .port] s.part q) ∧
  (∀ (s : State) (req on off : Nat), portFree s.part = true → on ≤ 255 → off ≤ 255 →
    ∃ q, exec (.setSignPattern req none (some (on, off))) s = .next { s with part := q } ∧
      answered req 18 .bad .none s.part q ∧ Part.changesOnly [.port] s.part q) ∧
  (∀ (s : State) (req on off : Nat) (st : Option MeterState), (255 < on ∨ 255 < off) → (responses s.part).length < 4 →
    ∃ q, exec (.setSignPattern req st (some (on, off))) s = .next { s with part := q } ∧
      q.port = { s.part.port with outbound := s.part.port.outbound ++ [.response req 18 .bad .none] } ∧
      Part.changesOnly [.port] s.part q) ∧
  (∀ (s : State) (req : Nat) (st : MeterState) (v : Pattern), s.part.sign.write = some (st, v) →
    s.part.port.outstanding = some ⟨req, 18, false⟩ → (responses s.part).length < 4 →
    ∃ q, exec .signPatternWriteComplete s = .next { s with part := q } ∧ answered req 18 .ok .none s.part q ∧
      (∀ x, signEntry q.sign.table x = if x = st then v else signEntry s.part.sign.table x) ∧ q.sign.write = none ∧
      q.sign.sign.pattern = (if s.part.emg.openAlert then ⟨2, 2⟩ else signEntry q.sign.table s.part.meter.state) ∧
      q.sign.alert = s.part.sign.alert ∧ Part.changesOnly [.sign, .port] s.part q) ∧
  (∀ (s : State) (l : Lamp), ∃ q, exec (.patternPhaseEnd l) s = .next { s with part := q } ∧
    (∀ g : Generator, g = (match l with | .sign => s.part.sign.sign | .alert => s.part.sign.alert) →
      ∀ g' : Generator, g' = (match l with | .sign => q.sign.sign | .alert => q.sign.alert) →
      (0 < g.pattern.on → 0 < g.pattern.off →
        g' = ⟨g.pattern, !g.phaseOn, if g.phaseOn then g.pattern.off else g.pattern.on⟩) ∧
      ((g.pattern.on = 0 ∨ g.pattern.off = 0) → g' = g)) ∧
    (l = .sign → q.sign.alert = s.part.sign.alert) ∧ (l = .alert → q.sign.sign = s.part.sign.sign) ∧
    q.sign.table = s.part.sign.table ∧ Part.changesOnly [.sign] s.part q)

/-- From the terminal, READ_STATUS and each QUERY subject is answered OK with its contents as they stand (offers with
SUPPRESSED shown as EXPIRED), QUERY TRIP of a number the log does not hold NOT_FOUND, and nothing but the port
changes. From the base, with room in the queue, each QUERY puts a REPLY with its contents in the queue, and a QUERY
STATUS also a STATUS, nothing but the queue and the count of draws changing; a queue that is full for the class drops
the REPLY. The contents: STATUS the identity, acquisition state, cycle, meter state, zone, stale flag and fix age (255
without a fix), the flags and their summary, set while any flag is, the fault record, emergency state, sequence,
open-alert flag, clock state, time, day class and trim; METER its state, motion, the awarded offer while ASSIGNED, K,
calibration count and the open trip's items; OFFERS each entry with its states, reasons and deadline, and job and
price of an AWARDED one; TARIFF the active version, the staging state with its version (none in EMPTY) and page count
(none in EMPTY and SUPERSEDED), the pending activation, whether a swap is in flight, and the missing pages' count and
first 16; TOTALS the four totalizers, the shift totals with their residual, the summary, the trip counter, the count
of records, the oldest and newest number, and how many are UNDELIVERED and QUEUED. When the first item of the outbound
list has been transmitted it leaves the list and nothing else changes. A notice is placed last and carries the
overflow mark, which it clears; where the list holds 32 notices it is discarded and the mark is set. -/
def Obligations.QueriesAreAnswered : Prop :=
  let told (s : State) (c : Instr) (req item : Nat) (a : QueryAnswer) : Prop :=
    ∃ q, exec c s = .next { s with part := q } ∧ answered req item .ok (.answer a) s.part q ∧ Part.changesOnly [.port] s.part q
  let replied (s : State) (c : Instr) (a : QueryAnswer) : Prop :=
    ∃ q, exec c s = .next { s with part := q } ∧ holdsEntry (.reply a) none .waiting q ∧
      Part.changesOnly [.queue, .draws] s.part q
  (∀ (s : State) (req n : Nat), portFree s.part = true →
    told s (.readStatus req) req 19 (.status (statusReport s.part)) ∧
    told s (.queryStatus (.cab req)) req 20 (.status (statusReport s.part)) ∧
    told s (.queryMeter (.cab req)) req 20 (.meter (meterReport s.part)) ∧
    told s (.queryOffers (.cab req)) req 20
      (.offers (s.part.offers.map (fun o =>
        { offerItem o with closeReason := if o.closeReason = some .suppressed then some .expired else o.closeReason }))) ∧
    told s (.queryTariff (.cab req)) req 20 (.tariff (tariffReport s.part.tariff)) ∧
    told s (.queryTotals (.cab req)) req 20 (.totals (totalsReport s.part.log)) ∧
    (∀ r, findRecord n s.part.log.records = some r → told s (.queryTrip (.cab req) (some n)) req 20 (.trip (some r))) ∧
    (findRecord n s.part.log.records = none →
      ∃ q, exec (.queryTrip (.cab req) (some n)) s = .next { s with part := q } ∧
        answered req 20 .notFound .none s.part q ∧ Part.changesOnly [.port] s.part q)) ∧
  (∀ (s : State) (h : AirHeader) (n : Nat), framePasses h s.part = true → queueRoom s.part →
    replied s (.queryMeter (.air h)) (.meter (meterReport s.part)) ∧
    replied s (.queryOffers (.air h)) (.offers (s.part.offers.map offerItem)) ∧
    replied s (.queryTariff (.air h)) (.tariff (tariffReport s.part.tariff)) ∧
    replied s (.queryTotals (.air h)) (.totals (totalsReport s.part.log)) ∧
    (roomFor (.reply (.trip (findRecord n s.part.log.records))) s.part →
      replied s (.queryTrip (.air h) (some n)) (.trip (findRecord n s.part.log.records)))) ∧
  (∀ (s : State) (h : AirHeader) (n : Nat), queueFull .routine s.part →
    exec (.queryMeter (.air h)) s = .next s ∧ exec (.queryOffers (.air h)) s = .next s ∧
    exec (.queryTariff (.air h)) s = .next s ∧ exec (.queryTotals (.air h)) s = .next s ∧
    exec (.queryTrip (.air h) (some n)) s = .next s) ∧
  (∀ l : TripLog,
    (totalsReport l).totals = ⟨l.totals.distance, l.totals.hired, l.totals.hires, l.totals.fares⟩ ∧
    (∀ sh, l.shift = some sh →
      (totalsReport l).shift = some ⟨sh.number, sh.startTod, sh.startDay, sh.sums, sh.residual⟩) ∧
    (totalsReport l).summary = l.summary ∧ (totalsReport l).tripCounter = l.tripCounter ∧
    (totalsReport l).records = l.records.length) ∧
  (∀ (s : State) (h : AirHeader), framePasses h s.part = true → s.part.queue.entries.length < 11 →
    9 ≤ (freeGranules s.part.queue.entries).length →
    ∃ q, exec (.queryStatus (.air h)) s = .next { s with part := q } ∧
      holdsEntry (.reply (.status (statusReport s.part))) none .waiting q ∧
      (∃ e ∈ q.queue.entries, e.body = .status (statusBody s.part) ∧ e.st = .waiting) ∧
      Part.changesOnly [.queue, .draws] s.part q) ∧
  (∀ (s : State) (o : Outbound) (rest : List Outbound), s.part.port.outbound = o :: rest →
    ∃ q, exec .outboundTransmitted s = .next { s with part := q } ∧ q.port = { s.part.port with outbound := rest } ∧
      Part.changesOnly [.port] s.part q) ∧
  (∀ (p : Part) (age : Nat) (awarded : Option Nat), age = (if p.zones.lastFix = none then 255 else p.zones.age) →
    awarded = (if p.meter.state = .assigned then p.meter.awarded else none) →
    statusReport p =
      { fleet := p.mgmt.identity.fleet, addr := p.mgmt.identity.addr, attrs := p.mgmt.identity.attrs, acq := p.ctl.acq,
        cycle := p.ctl.cycle, meter := p.meter.state, zone := p.zones.zone, stale := p.zones.stale, age := age,
        flags := p.mgmt.flags, summary := flagSummary p.mgmt.flags, fault := p.queue.fault, emergency := p.emg.state,
        sequence := p.emg.sequence, openAlert := p.emg.openAlert, clock := p.clock.state, tod := p.clock.tod,
        day := p.clock.day, trim := p.clock.trim } ∧
    statusBody p =
      { meter := p.meter.state, zone := p.zones.zone, stale := p.zones.stale, age := age, awarded := awarded,
        summary := flagSummary p.mgmt.flags } ∧
    (flagSummary p.mgmt.flags = true ↔ ∃ f, flagOf p f = true) ∧
    (meterReport p).state = p.meter.state ∧ (meterReport p).motion = p.meter.motion ∧ (meterReport p).awarded = awarded ∧
    (meterReport p).k = p.meter.k ∧ (meterReport p).calEvents = p.meter.calEvents ∧
    (p.meter.trip = none → (meterReport p).trip = none) ∧
    (∀ t, p.meter.trip = some t →
      (meterReport p).trip =
        some
          { number := t.number, shift := t.shift, startTod := t.startTod, startDay := t.startDay, startZone := t.startZone,
            imageVersion := t.imageVersion, jobId := t.jobId, price := t.price, extras := t.extras,
            powerInterrupted := t.powerInterrupted, clockFree := t.clockFree, clockUnset := t.clockUnset,
            pulseClamped := t.pulseClamped, distanceSuspect := t.distanceSuspect, tariff := t.fare.tariff,
            metered := t.fare.metered, charged := t.fare.charged })) ∧
  (∀ t : TariffStore,
    tariffReport t =
      { activeVersion := t.activeVersion, staging := t.staging,
        stagingVersion := (if t.staging = .empty then none else t.loadVersion),
        pageCount := (if t.staging = .empty ∨ t.staging = .superseded then none else t.pageCount),
        pending := t.activation, swapInFlight := decide (t.activity = .swapping), missingCount := t.missing.length,
        missingList := t.missing.take 16 }) ∧
  (∀ o : Offer,
    offerItem o =
      { id := o.id, kind := o.kind, state := o.state, closeReason := o.closeReason, withdrawReason := o.withdrawReason,
        deadline := o.deadline, award := (if o.state = .awarded then some (o.jobId, o.price) else none) }) ∧
  (∀ l : TripLog,
    (∀ r, l.records.head? = some r → (totalsReport l).oldest = some r.number) ∧
    (∀ r, l.records.getLast? = some r → (totalsReport l).newest = some r.number) ∧
    (l.records = [] → (totalsReport l).oldest = none ∧ (totalsReport l).newest = none) ∧
    (l.shift = none → (totalsReport l).shift = none) ∧
    (totalsReport l).undelivered = l.records.countP (fun r => decide (r.delivery = .undelivered)) ∧
    (totalsReport l).queued = l.records.countP (fun r => decide (r.delivery = .queued))) ∧
  (∀ (p : Part) (body : NoticeBody),
    notified body p (placeNotice body p) ∧ Part.changesOnly [.port] p (placeNotice body p))

/-- CLEAR FAULTS from either link: each named flag is clear and every other flag as before, the status summary is set
exactly while a flag is, the record option empties the link fault record and without it the record stays; nothing else
of the management unit or the queue changes. On the cab link it is answered OK, whatever it names; on the air link it
is not answered. -/
def Obligations.FaultsAreCleared : Prop :=
  let cleared (flags : List Flag) (record : Bool) (p q : Part) : Prop :=
    (∀ f, flagOf q f = if f ∈ flags then false else flagOf p f) ∧
    (flagSummary q.mgmt.flags = true ↔ ∃ f, flagOf q f = true) ∧
    q.mgmt = { p.mgmt with flags := q.mgmt.flags } ∧
    q.queue = { p.queue with fault := if record then none else p.queue.fault }
  (∀ (s : State) (req : Nat) (flags : List Flag) (record : Bool), portFree s.part = true →
    ∃ q, exec (.clearFaults (.cab req) (some flags) record) s = .next { s with part := q } ∧ cleared flags record s.part q ∧
      answered req 21 .ok .none s.part q ∧ Part.changesOnly [.mgmt, .queue, .port] s.part q) ∧
  (∀ (s : State) (h : AirHeader) (flags : List Flag) (record : Bool), framePasses h s.part = true →
    ∃ q, exec (.clearFaults (.air h) (some flags) record) s = .next { s with part := q } ∧ cleared flags record s.part q ∧
      Part.changesOnly [.mgmt, .queue] s.part q)

/-- SET IDENTITY heard outside PARKED with its CRC, addressed ALL, CAB to the own address or GROUP to a group of the table
(that R20's address table is applied to it is the model's choice, log 21), with the part's serial, no write in flight,
fleet 1 to 255, address 1 to 4,094, the meter OFF_DUTY or VACANT, and an identity unlike the present one: its write
begins and nothing else changes; otherwise nothing changes. When the write completes the identity is the new one and a
fleet restart follows; FLEET RESTART is one too. At a fleet restart the controller is in SEARCH without groups or
schedule, offers, messages, canned texts, zone table, flags, fault record and emergency hold are empty, the parameters
are the defaults, ASSIGNED becomes VACANT, a held request is answered BUSY, no record is QUEUED; trip, K, totals,
sequence, open-alert flag and time base stay. The tariff store's banks, roles, versions, a STAGED, REJECTED or
SUPERSEDED staging state and a swap in flight stay, CLEARING and LOADING become EMPTY, no page is missing or held, the
last time read is absent, and the pending activation is kept and evaluated. The queue then holds a STATUS of the state
as it stands and, with an emergency active, in ARMING by its return state, its BEACON or CANCEL; the notices are LINK,
when the state changed, and then METER (an order of the model's choice, log 17); that there is one METER notice and
one STATUS also where ASSIGNED becomes VACANT is the model's reading (log 33); SIGN has the owner and pattern of the
open-alert flag and the meter state, started anew only when they changed, and the rear lamp runs on. -/
def Obligations.IdentityAndFleetRestart : Prop :=
  let accepted (s : State) (h : AirHeader) (serial : BitVec 32) (i : Identity) : Prop :=
    h.crcOk = true ∧ s.part.ctl.acq ≠ .parked ∧
    (h.kind = .all ∨ (h.kind = .cab ∧ h.addr = s.part.mgmt.identity.addr ∧ s.part.mgmt.identity.addr ≠ 0) ∨
      (h.kind = .group ∧ h.addr ∈ s.part.ctl.groups)) ∧
    serial = s.part.mgmt.serial ∧
    s.part.mgmt.idWrite = none ∧ 1 ≤ i.fleet ∧ i.fleet ≤ 255 ∧ 1 ≤ i.addr ∧ i.addr ≤ 4094 ∧
    (s.part.meter.state = .offDuty ∨ s.part.meter.state = .vacant) ∧ i ≠ s.part.mgmt.identity
  let restarted (p q : Part) : Prop :=
    q.ctl.acq = .search ∧ q.ctl.groups = [] ∧ q.ctl.schedule = [] ∧ q.ctl.cycle = p.ctl.cycle ∧ q.offers = [] ∧
    q.msgs.inbox = [] ∧ q.msgs.canned = List.replicate 32 [] ∧ q.msgs.motion = p.msgs.motion ∧
    q.zones.table = List.replicate 64 none ∧ q.zones.zone = 0 ∧ q.zones.stale = true ∧ q.zones.lastFix = none ∧
    q.zones.area = p.zones.area ∧ (∀ f, flagOf q f = false) ∧ q.mgmt.params = ChannelParams.defaults ∧
    q.queue.fault = none ∧ q.queue.hold = none ∧
    q.meter =
      { p.meter with state := if p.meter.state = .assigned then .vacant else p.meter.state, awarded := none, held := none } ∧
    (p.meter.held ≠ none → q.port.outstanding = none) ∧
    (∀ r ∈ q.log.records, r.delivery ≠ .queued) ∧ q.log.totals = p.log.totals ∧ q.log.shift = p.log.shift ∧
    evaluated (restartedStore p.tariff) q ∧
    q.emg.state = p.emg.state ∧ q.emg.sequence = p.emg.sequence ∧ q.emg.openAlert = p.emg.openAlert ∧
    q.mgmt.serial = p.mgmt.serial ∧ q.clock = p.clock ∧ q.lines = p.lines ∧ q.air = p.air ∧
    q.emg.ret = p.emg.ret ∧ q.emg.holdRunning = p.emg.holdRunning ∧ q.emg.nextFrame = none ∧
    statusQueued q ∧ (frameState p.emg ≠ .idle → frameQueued q) ∧
    q.queue.entries.length = (if frameState p.emg = .idle then 1 else 2) ∧ signFollows p q ∧
    ((notices p).length + 2 ≤ 32 →
      noticeBodies q =
        noticeBodies p ++ (if p.ctl.acq = .search then [] else [.link .search p.ctl.cycle]) ++ [meterNotice q]) ∧
    (∀ o, p.meter.held ≠ none → p.port.outstanding = some o → o.discard = false → (responses p).length < 4 →
      responses q = responses p ++ [.response o.req o.item .busy .none]) ∧
    (p.meter.held = none → responses q = responses p ∧ q.port.outstanding = p.port.outstanding)
  (∀ (s : State) (h : AirHeader) (serial : BitVec 32) (i : Identity), accepted s h serial i →
    ∃ q, exec (.setIdentity h serial i) s = .next { s with part := q } ∧
      q.mgmt = { s.part.mgmt with idWrite := some i } ∧ Part.changesOnly [.mgmt] s.part q) ∧
  (∀ (s : State) (h : AirHeader) (serial : BitVec 32) (i : Identity), ¬ accepted s h serial i →
    exec (.setIdentity h serial i) s = .next s) ∧
  (∀ (s : State) (i : Identity), s.part.mgmt.idWrite = some i →
    ∃ q, exec .identityWriteComplete s = .next { s with part := q } ∧ q.mgmt.identity = i ∧ q.mgmt.idWrite = none ∧
      restarted s.part q) ∧
  (∀ (s : State) (h : AirHeader), framePasses h s.part = true →
    ∃ q, exec (.fleetRestart h) s = .next { s with part := q } ∧ q.mgmt.identity = s.part.mgmt.identity ∧
      q.mgmt.idWrite = s.part.mgmt.idWrite ∧ restarted s.part q)

/-- TERMINAL_RESTART empties the outbound list, answers OK, sends a LINK notice, marks the fix stale, makes an outstanding
request one whose answer is discarded, and re-notifies every offer not CLOSED, every message not held and the meter,
in an order that is left free. COLD_START_UP: OFF_DUTY without a trip, clock UNSET at 0, no shift, no emergency,
sequence 0. WARM_START_UP with the supply mark held and the check word agreeing: HIRED becomes SUSPENDED and ASSIGNED
VACANT, the trip stays, the clock is FREE at its time, the emergency is in its state, ARMING in its return state, the
open-alert flag stays while that is not IDLE; the log keeps its working contents (QUEUED records UNDELIVERED, a QUEUED
summary PENDING), the update that was in flight is in flight again, and the waiting changes wait for it (the model's
reading, log 25); after a cold one the log is what its nonvolatile contents hold, with or without the update in
flight, and no change is in flight or waits; without either it is a COLD_START_UP (that the rows stand for a lost and
a kept supply mark is the model's choice, log 26). Both: controller, zone resolver, message store, channel parameters,
status flags, offer table and the meter's volatile items at the values of the reset tables (the start-up being at 0 of
the local counter, the model's choice, log 1); the tariff store's banks, roles and versions kept, or exchanged where a
swap was in flight, CLEARING and LOADING made EMPTY, no page missing or held, the last time read absent, and the
pending activation kept and evaluated; the lines as found, a LINK and a METER notice, a STATUS in the queue and, with
an emergency active, its BEACON or CANCEL, SIGN and the rear lamp started by the open-alert flag and the meter state,
mark and check word good again; a pressed switch arms the unit unless it is in ALERT. K, identity and trim are the old
ones, or the ones of a write that power loss interrupted, left free (log 6). -/
def Obligations.RestartsAndStartUps : Prop :=
  let requeued (rs : List TripRecord) : List TripRecord :=
    rs.map (fun r => if r.delivery = .queued then { r with delivery := .undelivered } else r)
  let started (ignition switch : Bool) (p q : Part) : Prop :=
    q.ctl =
      { acq := .search, cycle := 0, expected := 1000000, timer := 1125000, inSeq := 0, missed := 0, nOpen := 0,
        restricted := false, schedule := [], groups := [], pageHold := 0, offTime := 0, len := 1000 } ∧
    q.zones =
      { table := List.replicate 64 none, lastFix := none, age := 255, cand := none, zone := 0, timer := 60, stale := true,
        area := 0 } ∧
    q.msgs = { inbox := [], canned := List.replicate 32 [], outId := 0, motion := .stopped } ∧ q.offers = [] ∧
    q.mgmt.params =
      { len := 1000, limitBid := 6, limitDecline := 6, limitStatus := 4, limitText := 4, limitTrip := 8, lifeDecline := 10,
        lifeStatus := 30, lifeText := 60, lifeTrip := 600 } ∧ (∀ f, flagOf q f = false) ∧ q.sig = ⟨false, false, false, false⟩ ∧
    q.meter.awarded = none ∧ q.meter.count = 0 ∧ q.meter.motion = .stopped ∧ q.meter.zeroRun = 3 ∧
    q.meter.window = ⟨0, 0, none, none, 0⟩ ∧
    (evaluated (restartedStore { p.tariff with activity := .idle }) q ∨
      (p.tariff.activity = .swapping ∧ evaluated (restartedStore (exchangedStore p.tariff)) q)) ∧
    q.lines = ⟨ignition, switch, p.lines.calEnable⟩ ∧ q.air = [] ∧ q.port.outstanding = none ∧
    q.port.outbound = [.notice (.link .search 0) false, .notice (meterNotice q) false] ∧
    statusQueued q ∧ (frameState q.emg ≠ .idle → frameQueued q) ∧
    q.queue.entries.length = (if frameState q.emg = .idle then 1 else 2) ∧ q.queue.hold = none ∧ q.queue.fault = none ∧
    signOwned q ∧ q.sign.sign.phaseOn = true ∧ q.sign.sign.timer = q.sign.sign.pattern.on ∧
    (q.emg.openAlert = true → q.sign.alert = ⟨⟨5, 5⟩, true, 5⟩) ∧ (q.emg.openAlert = false → alertLit q = false) ∧
    (∀ st, signEntry q.sign.table st = signEntry p.sign.table st ∨
      p.sign.write = some (st, signEntry q.sign.table st)) ∧ q.sign.write = none ∧ q.emg.nextFrame = none ∧
    (∀ r ∈ q.log.records, r.delivery ≠ .queued) ∧
    (q.meter.k = p.meter.k ∨ p.meter.calWrite = some q.meter.k) ∧ q.meter.held = none ∧ q.meter.calWrite = none ∧
    (q.mgmt.identity = p.mgmt.identity ∨ p.mgmt.idWrite = some q.mgmt.identity) ∧ q.mgmt.serial = p.mgmt.serial ∧
    (q.clock.trim = p.clock.trimNv ∨ p.clock.trimWrite = some q.clock.trim) ∧ q.clock.trimNv = q.clock.trim ∧
    q.mgmt.supplyMark = true ∧ q.mgmt.checkAgrees = true
  (∀ (s : State) (req : Nat), ∃ q, exec (.terminalRestart req) s = .next { s with part := q } ∧
    responses q = [.response req 22 .ok .none] ∧
    q.port.outbound.take 2 =
      [.response req 22 .ok .none, .notice (.link s.part.ctl.acq s.part.ctl.cycle) false] ∧
    q.port.outstanding = s.part.port.outstanding.map (fun o => { o with discard := true }) ∧
    q.zones = { s.part.zones with cand := none, timer := 60, stale := true } ∧
    (s.part.offers.length + s.part.msgs.inbox.length + 2 ≤ 32 →
      (∀ o ∈ s.part.offers, o.state ≠ .closed → ∃ v, .notice (offerNotice o) v ∈ notices q) ∧
      (∀ m ∈ s.part.msgs.inbox, m.held = false → ∃ v, .notice (.message m) v ∈ notices q) ∧
      (∃ v, .notice (meterNotice s.part) v ∈ notices q)) ∧
    Part.changesOnly [.zones, .draws, .port] s.part q) ∧
  (∀ (s : State) (ignition switch : Bool),
    ∃ q, exec (.coldStartUp ignition switch) s = .next { s with part := q } ∧ started ignition switch s.part q ∧
      q.meter.state = .offDuty ∧ q.meter.trip = none ∧ q.clock.state = .unset ∧ q.clock.tod = 0 ∧ q.log.shift = none ∧
      q.log.summary = none ∧ q.emg.sequence = 0 ∧ q.emg.openAlert = false ∧
      q.emg.state = (if switch then .arming else .idle) ∧
      (q.log.nv = s.part.log.nv ∨ ∃ cs, s.part.log.inFlight = some cs ∧ q.log.nv = writeChanges cs s.part.log.nv) ∧
      q.log.inFlight = none ∧ q.log.waiting = [] ∧
      q.log.totals = q.log.nv.totals ∧ q.log.tripCounter = q.log.nv.tripCounter ∧ q.log.shiftCounter = q.log.nv.shiftCounter ∧
      q.log.records = requeued q.log.nv.records) ∧
  (∀ (s : State) (ignition switch : Bool), (s.part.mgmt.supplyMark = false ∨ s.part.mgmt.checkAgrees = false) →
    exec (.warmStartUp ignition switch) s = exec (.coldStartUp ignition switch) s) ∧
  (∀ (s : State) (ignition switch : Bool) (u : EmergencyState), u = frameState s.part.emg →
    s.part.mgmt.supplyMark = true → s.part.mgmt.checkAgrees = true →
    ∃ q, exec (.warmStartUp ignition switch) s = .next { s with part := q } ∧ started ignition switch s.part q ∧
      q.meter.state =
        (match s.part.meter.state with
          | .assigned => .vacant
          | .hired => .suspended
          | .offDuty => .offDuty
          | .vacant => .vacant
          | .payable => .payable
          | .suspended => .suspended) ∧
      q.meter.trip = s.part.meter.trip ∧ q.clock.state = .free ∧ q.clock.tod = s.part.clock.tod ∧ q.clock.silence = 120 ∧
      q.log.shift = s.part.log.shift ∧ q.log.totals = s.part.log.totals ∧ q.log.tripCounter = s.part.log.tripCounter ∧
      q.log.shiftCounter = s.part.log.shiftCounter ∧ q.log.records = requeued s.part.log.records ∧
      q.log.summary = s.part.log.summary.map (fun v => (v.1, .pending)) ∧
      q.log.nv = s.part.log.nv ∧ q.log.inFlight = s.part.log.inFlight ∧ q.log.waiting = s.part.log.waiting ∧
      (q.emg.openAlert = true ↔ s.part.emg.openAlert = true ∧ u ≠ .idle) ∧
      (switch = true → u ≠ .alert →
        q.emg.ret = (match u with
          | .tracking => some .tracking
          | .cancelPending => some .cancelPending
          | .idle => some .idle
          | .alert => none
          | .arming => none) ∧ q.emg.holdRunning = true) ∧
      q.emg.sequence = s.part.emg.sequence ∧ q.emg.state = (if switch = true ∧ u ≠ .alert then .arming else u))

/-- From every state in which the cycle schedule is empty or the controller LOCKED, a step that answers a next state gives
such a state; and from every state in which a set open-alert flag goes with an active emergency, it gives such a
state. -/
def Obligations.LockedSchedulesAndBackedAlerts : Prop :=
  ∀ s t : State, step s = .next t →
    (scheduleLocked s.part → scheduleLocked t.part) ∧ (alertBacked s.part → alertBacked t.part)

/-- From every state in which the outbound list holds at most 4 responses and 32 notices, the offer table 8 entries, the
message store 24, the uplink queue 12 entries whose tags lie in 0 to 15 and differ from each other, a step that
answers a next state gives such a state; and when besides no granule is listed twice and each entry's granules hold
its body's bytes, as many as they have room for, the next state's entries have that too. -/
def Obligations.StoresKeepTheirBounds : Prop :=
  ∀ s t : State, storesBounded s.part → tagsDistinct s.part → step s = .next t →
    storesBounded t.part ∧ tagsDistinct t.part ∧ (granulesHold s.part → granulesHold t.part)

/-- From every state in which no two offers share an id, an ASSIGNED meter has an AWARDED entry, and every AWARDED entry
is the one whose id an ASSIGNED meter holds, a step that answers a next state gives such a state. -/
def Obligations.AwardedExactlyWhileAssigned : Prop :=
  ∀ s t : State, awardedAssigned s.part → step s = .next t → awardedAssigned t.part

/-- From every state in which the outstanding request is exactly a HIRE or an ON_DUTY held during a swap, or a
SET_CALIBRATION or SET_SIGN_PATTERN whose write is in flight (a calibration write finding the meter OFF_DUTY), a step
that answers a next state gives such a state, and K differs after it only when the meter was OFF_DUTY before it. -/
def Obligations.OutstandingRequestsMatch : Prop :=
  ∀ s t : State, answersMatch s.part → step s = .next t →
    answersMatch t.part ∧ (t.part.meter.k ≠ s.part.meter.k → s.part.meter.state = .offDuty)

/-- From every state in which a swap in flight goes with no open trip, a step that answers a next state gives such a
state; and when a trip was open before the step, the ACTIVE bank and the active version are the same after it. -/
def Obligations.TripKeepsItsImage : Prop :=
  ∀ s t : State, swapWithoutTrip s.part → step s = .next t →
    swapWithoutTrip t.part ∧
    (tripOpen s.part.meter.state = true →
      activeBank t.part.tariff = activeBank s.part.tariff ∧ t.part.tariff.activeVersion = s.part.tariff.activeVersion)

/-- The part at reset has an empty schedule, empty bounded stores with distinct tags, 128 granules of which none is
listed, no open-alert flag, no awarded entry and no ASSIGNED meter, no outstanding request, and no swap in flight. -/
def Obligations.ResetMeetsInvariants : Prop :=
  scheduleLocked State.reset.part ∧ tagsDistinct State.reset.part ∧ alertBacked State.reset.part ∧
  storesBounded State.reset.part ∧ awardedAssigned State.reset.part ∧ answersMatch State.reset.part ∧
  swapWithoutTrip State.reset.part ∧ granulesHold State.reset.part

/-- After any step that answers a next state, every burst among those last released was there before, or the controller
was LOCKED before the step and the burst carries the part's fleet and address, the tag and kind of an entry of the
queue, at most 32 bytes, and is not of class ROUTINE or BULK while the emergency state is ALERT. -/
def Obligations.OnlyLockedCabsTransmit : Prop :=
  ∀ s t : State, step s = .next t → ∀ b ∈ t.part.air,
    b ∈ s.part.air ∨
      (s.part.ctl.acq = .locked ∧ b.fleet = s.part.mgmt.identity.fleet ∧ b.addr = s.part.mgmt.identity.addr ∧
        b.bytes.length ≤ 32 ∧ (s.part.emg.state = .alert → isLowClass b.cls = false) ∧
        ∃ e ∈ s.part.queue.entries, b.tag = e.tag ∧ b.kind = kindOf e.body ∧ b.cls = classOf b.kind)
end

