-- ==== Sys2Proof/Laws/State.lean ====
section
/-! SUPPORT. One lemma for each block under each update of a block: the updated block is the new one, every other block is
as before. No later proof unfolds an update. -/

namespace Sys2Proof.Machine

-- Proofs one after another: in parallel, in the package as one text, each would wait for the kernel on a thread of its own.
set_option Elab.async false

@[simp] theorem Part.setCtl_ctl (p : Part) (v : Controller) : (p.setCtl v).ctl = v := rfl
@[simp] theorem Part.setCtl_queue (p : Part) (v : Controller) : (p.setCtl v).queue = p.queue := rfl
@[simp] theorem Part.setCtl_zones (p : Part) (v : Controller) : (p.setCtl v).zones = p.zones := rfl
@[simp] theorem Part.setCtl_offers (p : Part) (v : Controller) : (p.setCtl v).offers = p.offers := rfl
@[simp] theorem Part.setCtl_meter (p : Part) (v : Controller) : (p.setCtl v).meter = p.meter := rfl
@[simp] theorem Part.setCtl_tariff (p : Part) (v : Controller) : (p.setCtl v).tariff = p.tariff := rfl
@[simp] theorem Part.setCtl_clock (p : Part) (v : Controller) : (p.setCtl v).clock = p.clock := rfl
@[simp] theorem Part.setCtl_log (p : Part) (v : Controller) : (p.setCtl v).log = p.log := rfl
@[simp] theorem Part.setCtl_msgs (p : Part) (v : Controller) : (p.setCtl v).msgs = p.msgs := rfl
@[simp] theorem Part.setCtl_emg (p : Part) (v : Controller) : (p.setCtl v).emg = p.emg := rfl
@[simp] theorem Part.setCtl_sign (p : Part) (v : Controller) : (p.setCtl v).sign = p.sign := rfl
@[simp] theorem Part.setCtl_mgmt (p : Part) (v : Controller) : (p.setCtl v).mgmt = p.mgmt := rfl
@[simp] theorem Part.setCtl_port (p : Part) (v : Controller) : (p.setCtl v).port = p.port := rfl
@[simp] theorem Part.setCtl_lines (p : Part) (v : Controller) : (p.setCtl v).lines = p.lines := rfl
@[simp] theorem Part.setCtl_air (p : Part) (v : Controller) : (p.setCtl v).air = p.air := rfl
@[simp] theorem Part.setCtl_sig (p : Part) (v : Controller) : (p.setCtl v).sig = p.sig := rfl
@[simp] theorem Part.setCtl_draws (p : Part) (v : Controller) : (p.setCtl v).draws = p.draws := rfl

@[simp] theorem Part.setQueue_ctl (p : Part) (v : Queue) : (p.setQueue v).ctl = p.ctl := rfl
@[simp] theorem Part.setQueue_queue (p : Part) (v : Queue) : (p.setQueue v).queue = v := rfl
@[simp] theorem Part.setQueue_zones (p : Part) (v : Queue) : (p.setQueue v).zones = p.zones := rfl
@[simp] theorem Part.setQueue_offers (p : Part) (v : Queue) : (p.setQueue v).offers = p.offers := rfl
@[simp] theorem Part.setQueue_meter (p : Part) (v : Queue) : (p.setQueue v).meter = p.meter := rfl
@[simp] theorem Part.setQueue_tariff (p : Part) (v : Queue) : (p.setQueue v).tariff = p.tariff := rfl
@[simp] theorem Part.setQueue_clock (p : Part) (v : Queue) : (p.setQueue v).clock = p.clock := rfl
@[simp] theorem Part.setQueue_log (p : Part) (v : Queue) : (p.setQueue v).log = p.log := rfl
@[simp] theorem Part.setQueue_msgs (p : Part) (v : Queue) : (p.setQueue v).msgs = p.msgs := rfl
@[simp] theorem Part.setQueue_emg (p : Part) (v : Queue) : (p.setQueue v).emg = p.emg := rfl
@[simp] theorem Part.setQueue_sign (p : Part) (v : Queue) : (p.setQueue v).sign = p.sign := rfl
@[simp] theorem Part.setQueue_mgmt (p : Part) (v : Queue) : (p.setQueue v).mgmt = p.mgmt := rfl
@[simp] theorem Part.setQueue_port (p : Part) (v : Queue) : (p.setQueue v).port = p.port := rfl
@[simp] theorem Part.setQueue_lines (p : Part) (v : Queue) : (p.setQueue v).lines = p.lines := rfl
@[simp] theorem Part.setQueue_air (p : Part) (v : Queue) : (p.setQueue v).air = p.air := rfl
@[simp] theorem Part.setQueue_sig (p : Part) (v : Queue) : (p.setQueue v).sig = p.sig := rfl
@[simp] theorem Part.setQueue_draws (p : Part) (v : Queue) : (p.setQueue v).draws = p.draws := rfl

@[simp] theorem Part.setZones_ctl (p : Part) (v : Resolver) : (p.setZones v).ctl = p.ctl := rfl
@[simp] theorem Part.setZones_queue (p : Part) (v : Resolver) : (p.setZones v).queue = p.queue := rfl
@[simp] theorem Part.setZones_zones (p : Part) (v : Resolver) : (p.setZones v).zones = v := rfl
@[simp] theorem Part.setZones_offers (p : Part) (v : Resolver) : (p.setZones v).offers = p.offers := rfl
@[simp] theorem Part.setZones_meter (p : Part) (v : Resolver) : (p.setZones v).meter = p.meter := rfl
@[simp] theorem Part.setZones_tariff (p : Part) (v : Resolver) : (p.setZones v).tariff = p.tariff := rfl
@[simp] theorem Part.setZones_clock (p : Part) (v : Resolver) : (p.setZones v).clock = p.clock := rfl
@[simp] theorem Part.setZones_log (p : Part) (v : Resolver) : (p.setZones v).log = p.log := rfl
@[simp] theorem Part.setZones_msgs (p : Part) (v : Resolver) : (p.setZones v).msgs = p.msgs := rfl
@[simp] theorem Part.setZones_emg (p : Part) (v : Resolver) : (p.setZones v).emg = p.emg := rfl
@[simp] theorem Part.setZones_sign (p : Part) (v : Resolver) : (p.setZones v).sign = p.sign := rfl
@[simp] theorem Part.setZones_mgmt (p : Part) (v : Resolver) : (p.setZones v).mgmt = p.mgmt := rfl
@[simp] theorem Part.setZones_port (p : Part) (v : Resolver) : (p.setZones v).port = p.port := rfl
@[simp] theorem Part.setZones_lines (p : Part) (v : Resolver) : (p.setZones v).lines = p.lines := rfl
@[simp] theorem Part.setZones_air (p : Part) (v : Resolver) : (p.setZones v).air = p.air := rfl
@[simp] theorem Part.setZones_sig (p : Part) (v : Resolver) : (p.setZones v).sig = p.sig := rfl
@[simp] theorem Part.setZones_draws (p : Part) (v : Resolver) : (p.setZones v).draws = p.draws := rfl

@[simp] theorem Part.setOffers_ctl (p : Part) (v : List Offer) : (p.setOffers v).ctl = p.ctl := rfl
@[simp] theorem Part.setOffers_queue (p : Part) (v : List Offer) : (p.setOffers v).queue = p.queue := rfl
@[simp] theorem Part.setOffers_zones (p : Part) (v : List Offer) : (p.setOffers v).zones = p.zones := rfl
@[simp] theorem Part.setOffers_offers (p : Part) (v : List Offer) : (p.setOffers v).offers = v := rfl
@[simp] theorem Part.setOffers_meter (p : Part) (v : List Offer) : (p.setOffers v).meter = p.meter := rfl
@[simp] theorem Part.setOffers_tariff (p : Part) (v : List Offer) : (p.setOffers v).tariff = p.tariff := rfl
@[simp] theorem Part.setOffers_clock (p : Part) (v : List Offer) : (p.setOffers v).clock = p.clock := rfl
@[simp] theorem Part.setOffers_log (p : Part) (v : List Offer) : (p.setOffers v).log = p.log := rfl
@[simp] theorem Part.setOffers_msgs (p : Part) (v : List Offer) : (p.setOffers v).msgs = p.msgs := rfl
@[simp] theorem Part.setOffers_emg (p : Part) (v : List Offer) : (p.setOffers v).emg = p.emg := rfl
@[simp] theorem Part.setOffers_sign (p : Part) (v : List Offer) : (p.setOffers v).sign = p.sign := rfl
@[simp] theorem Part.setOffers_mgmt (p : Part) (v : List Offer) : (p.setOffers v).mgmt = p.mgmt := rfl
@[simp] theorem Part.setOffers_port (p : Part) (v : List Offer) : (p.setOffers v).port = p.port := rfl
@[simp] theorem Part.setOffers_lines (p : Part) (v : List Offer) : (p.setOffers v).lines = p.lines := rfl
@[simp] theorem Part.setOffers_air (p : Part) (v : List Offer) : (p.setOffers v).air = p.air := rfl
@[simp] theorem Part.setOffers_sig (p : Part) (v : List Offer) : (p.setOffers v).sig = p.sig := rfl
@[simp] theorem Part.setOffers_draws (p : Part) (v : List Offer) : (p.setOffers v).draws = p.draws := rfl

@[simp] theorem Part.setMeter_ctl (p : Part) (v : Meter) : (p.setMeter v).ctl = p.ctl := rfl
@[simp] theorem Part.setMeter_queue (p : Part) (v : Meter) : (p.setMeter v).queue = p.queue := rfl
@[simp] theorem Part.setMeter_zones (p : Part) (v : Meter) : (p.setMeter v).zones = p.zones := rfl
@[simp] theorem Part.setMeter_offers (p : Part) (v : Meter) : (p.setMeter v).offers = p.offers := rfl
@[simp] theorem Part.setMeter_meter (p : Part) (v : Meter) : (p.setMeter v).meter = v := rfl
@[simp] theorem Part.setMeter_tariff (p : Part) (v : Meter) : (p.setMeter v).tariff = p.tariff := rfl
@[simp] theorem Part.setMeter_clock (p : Part) (v : Meter) : (p.setMeter v).clock = p.clock := rfl
@[simp] theorem Part.setMeter_log (p : Part) (v : Meter) : (p.setMeter v).log = p.log := rfl
@[simp] theorem Part.setMeter_msgs (p : Part) (v : Meter) : (p.setMeter v).msgs = p.msgs := rfl
@[simp] theorem Part.setMeter_emg (p : Part) (v : Meter) : (p.setMeter v).emg = p.emg := rfl
@[simp] theorem Part.setMeter_sign (p : Part) (v : Meter) : (p.setMeter v).sign = p.sign := rfl
@[simp] theorem Part.setMeter_mgmt (p : Part) (v : Meter) : (p.setMeter v).mgmt = p.mgmt := rfl
@[simp] theorem Part.setMeter_port (p : Part) (v : Meter) : (p.setMeter v).port = p.port := rfl
@[simp] theorem Part.setMeter_lines (p : Part) (v : Meter) : (p.setMeter v).lines = p.lines := rfl
@[simp] theorem Part.setMeter_air (p : Part) (v : Meter) : (p.setMeter v).air = p.air := rfl
@[simp] theorem Part.setMeter_sig (p : Part) (v : Meter) : (p.setMeter v).sig = p.sig := rfl
@[simp] theorem Part.setMeter_draws (p : Part) (v : Meter) : (p.setMeter v).draws = p.draws := rfl

@[simp] theorem Part.setTariff_ctl (p : Part) (v : TariffStore) : (p.setTariff v).ctl = p.ctl := rfl
@[simp] theorem Part.setTariff_queue (p : Part) (v : TariffStore) : (p.setTariff v).queue = p.queue := rfl
@[simp] theorem Part.setTariff_zones (p : Part) (v : TariffStore) : (p.setTariff v).zones = p.zones := rfl
@[simp] theorem Part.setTariff_offers (p : Part) (v : TariffStore) : (p.setTariff v).offers = p.offers := rfl
@[simp] theorem Part.setTariff_meter (p : Part) (v : TariffStore) : (p.setTariff v).meter = p.meter := rfl
@[simp] theorem Part.setTariff_tariff (p : Part) (v : TariffStore) : (p.setTariff v).tariff = v := rfl
@[simp] theorem Part.setTariff_clock (p : Part) (v : TariffStore) : (p.setTariff v).clock = p.clock := rfl
@[simp] theorem Part.setTariff_log (p : Part) (v : TariffStore) : (p.setTariff v).log = p.log := rfl
@[simp] theorem Part.setTariff_msgs (p : Part) (v : TariffStore) : (p.setTariff v).msgs = p.msgs := rfl
@[simp] theorem Part.setTariff_emg (p : Part) (v : TariffStore) : (p.setTariff v).emg = p.emg := rfl
@[simp] theorem Part.setTariff_sign (p : Part) (v : TariffStore) : (p.setTariff v).sign = p.sign := rfl
@[simp] theorem Part.setTariff_mgmt (p : Part) (v : TariffStore) : (p.setTariff v).mgmt = p.mgmt := rfl
@[simp] theorem Part.setTariff_port (p : Part) (v : TariffStore) : (p.setTariff v).port = p.port := rfl
@[simp] theorem Part.setTariff_lines (p : Part) (v : TariffStore) : (p.setTariff v).lines = p.lines := rfl
@[simp] theorem Part.setTariff_air (p : Part) (v : TariffStore) : (p.setTariff v).air = p.air := rfl
@[simp] theorem Part.setTariff_sig (p : Part) (v : TariffStore) : (p.setTariff v).sig = p.sig := rfl
@[simp] theorem Part.setTariff_draws (p : Part) (v : TariffStore) : (p.setTariff v).draws = p.draws := rfl

@[simp] theorem Part.setClock_ctl (p : Part) (v : TimeBase) : (p.setClock v).ctl = p.ctl := rfl
@[simp] theorem Part.setClock_queue (p : Part) (v : TimeBase) : (p.setClock v).queue = p.queue := rfl
@[simp] theorem Part.setClock_zones (p : Part) (v : TimeBase) : (p.setClock v).zones = p.zones := rfl
@[simp] theorem Part.setClock_offers (p : Part) (v : TimeBase) : (p.setClock v).offers = p.offers := rfl
@[simp] theorem Part.setClock_meter (p : Part) (v : TimeBase) : (p.setClock v).meter = p.meter := rfl
@[simp] theorem Part.setClock_tariff (p : Part) (v : TimeBase) : (p.setClock v).tariff = p.tariff := rfl
@[simp] theorem Part.setClock_clock (p : Part) (v : TimeBase) : (p.setClock v).clock = v := rfl
@[simp] theorem Part.setClock_log (p : Part) (v : TimeBase) : (p.setClock v).log = p.log := rfl
@[simp] theorem Part.setClock_msgs (p : Part) (v : TimeBase) : (p.setClock v).msgs = p.msgs := rfl
@[simp] theorem Part.setClock_emg (p : Part) (v : TimeBase) : (p.setClock v).emg = p.emg := rfl
@[simp] theorem Part.setClock_sign (p : Part) (v : TimeBase) : (p.setClock v).sign = p.sign := rfl
@[simp] theorem Part.setClock_mgmt (p : Part) (v : TimeBase) : (p.setClock v).mgmt = p.mgmt := rfl
@[simp] theorem Part.setClock_port (p : Part) (v : TimeBase) : (p.setClock v).port = p.port := rfl
@[simp] theorem Part.setClock_lines (p : Part) (v : TimeBase) : (p.setClock v).lines = p.lines := rfl
@[simp] theorem Part.setClock_air (p : Part) (v : TimeBase) : (p.setClock v).air = p.air := rfl
@[simp] theorem Part.setClock_sig (p : Part) (v : TimeBase) : (p.setClock v).sig = p.sig := rfl
@[simp] theorem Part.setClock_draws (p : Part) (v : TimeBase) : (p.setClock v).draws = p.draws := rfl

@[simp] theorem Part.setLog_ctl (p : Part) (v : TripLog) : (p.setLog v).ctl = p.ctl := rfl
@[simp] theorem Part.setLog_queue (p : Part) (v : TripLog) : (p.setLog v).queue = p.queue := rfl
@[simp] theorem Part.setLog_zones (p : Part) (v : TripLog) : (p.setLog v).zones = p.zones := rfl
@[simp] theorem Part.setLog_offers (p : Part) (v : TripLog) : (p.setLog v).offers = p.offers := rfl
@[simp] theorem Part.setLog_meter (p : Part) (v : TripLog) : (p.setLog v).meter = p.meter := rfl
@[simp] theorem Part.setLog_tariff (p : Part) (v : TripLog) : (p.setLog v).tariff = p.tariff := rfl
@[simp] theorem Part.setLog_clock (p : Part) (v : TripLog) : (p.setLog v).clock = p.clock := rfl
@[simp] theorem Part.setLog_log (p : Part) (v : TripLog) : (p.setLog v).log = v := rfl
@[simp] theorem Part.setLog_msgs (p : Part) (v : TripLog) : (p.setLog v).msgs = p.msgs := rfl
@[simp] theorem Part.setLog_emg (p : Part) (v : TripLog) : (p.setLog v).emg = p.emg := rfl
@[simp] theorem Part.setLog_sign (p : Part) (v : TripLog) : (p.setLog v).sign = p.sign := rfl
@[simp] theorem Part.setLog_mgmt (p : Part) (v : TripLog) : (p.setLog v).mgmt = p.mgmt := rfl
@[simp] theorem Part.setLog_port (p : Part) (v : TripLog) : (p.setLog v).port = p.port := rfl
@[simp] theorem Part.setLog_lines (p : Part) (v : TripLog) : (p.setLog v).lines = p.lines := rfl
@[simp] theorem Part.setLog_air (p : Part) (v : TripLog) : (p.setLog v).air = p.air := rfl
@[simp] theorem Part.setLog_sig (p : Part) (v : TripLog) : (p.setLog v).sig = p.sig := rfl
@[simp] theorem Part.setLog_draws (p : Part) (v : TripLog) : (p.setLog v).draws = p.draws := rfl

@[simp] theorem Part.setMsgs_ctl (p : Part) (v : MessageStore) : (p.setMsgs v).ctl = p.ctl := rfl
@[simp] theorem Part.setMsgs_queue (p : Part) (v : MessageStore) : (p.setMsgs v).queue = p.queue := rfl
@[simp] theorem Part.setMsgs_zones (p : Part) (v : MessageStore) : (p.setMsgs v).zones = p.zones := rfl
@[simp] theorem Part.setMsgs_offers (p : Part) (v : MessageStore) : (p.setMsgs v).offers = p.offers := rfl
@[simp] theorem Part.setMsgs_meter (p : Part) (v : MessageStore) : (p.setMsgs v).meter = p.meter := rfl
@[simp] theorem Part.setMsgs_tariff (p : Part) (v : MessageStore) : (p.setMsgs v).tariff = p.tariff := rfl
@[simp] theorem Part.setMsgs_clock (p : Part) (v : MessageStore) : (p.setMsgs v).clock = p.clock := rfl
@[simp] theorem Part.setMsgs_log (p : Part) (v : MessageStore) : (p.setMsgs v).log = p.log := rfl
@[simp] theorem Part.setMsgs_msgs (p : Part) (v : MessageStore) : (p.setMsgs v).msgs = v := rfl
@[simp] theorem Part.setMsgs_emg (p : Part) (v : MessageStore) : (p.setMsgs v).emg = p.emg := rfl
@[simp] theorem Part.setMsgs_sign (p : Part) (v : MessageStore) : (p.setMsgs v).sign = p.sign := rfl
@[simp] theorem Part.setMsgs_mgmt (p : Part) (v : MessageStore) : (p.setMsgs v).mgmt = p.mgmt := rfl
@[simp] theorem Part.setMsgs_port (p : Part) (v : MessageStore) : (p.setMsgs v).port = p.port := rfl
@[simp] theorem Part.setMsgs_lines (p : Part) (v : MessageStore) : (p.setMsgs v).lines = p.lines := rfl
@[simp] theorem Part.setMsgs_air (p : Part) (v : MessageStore) : (p.setMsgs v).air = p.air := rfl
@[simp] theorem Part.setMsgs_sig (p : Part) (v : MessageStore) : (p.setMsgs v).sig = p.sig := rfl
@[simp] theorem Part.setMsgs_draws (p : Part) (v : MessageStore) : (p.setMsgs v).draws = p.draws := rfl

@[simp] theorem Part.setEmg_ctl (p : Part) (v : EmergencyUnit) : (p.setEmg v).ctl = p.ctl := rfl
@[simp] theorem Part.setEmg_queue (p : Part) (v : EmergencyUnit) : (p.setEmg v).queue = p.queue := rfl
@[simp] theorem Part.setEmg_zones (p : Part) (v : EmergencyUnit) : (p.setEmg v).zones = p.zones := rfl
@[simp] theorem Part.setEmg_offers (p : Part) (v : EmergencyUnit) : (p.setEmg v).offers = p.offers := rfl
@[simp] theorem Part.setEmg_meter (p : Part) (v : EmergencyUnit) : (p.setEmg v).meter = p.meter := rfl
@[simp] theorem Part.setEmg_tariff (p : Part) (v : EmergencyUnit) : (p.setEmg v).tariff = p.tariff := rfl
@[simp] theorem Part.setEmg_clock (p : Part) (v : EmergencyUnit) : (p.setEmg v).clock = p.clock := rfl
@[simp] theorem Part.setEmg_log (p : Part) (v : EmergencyUnit) : (p.setEmg v).log = p.log := rfl
@[simp] theorem Part.setEmg_msgs (p : Part) (v : EmergencyUnit) : (p.setEmg v).msgs = p.msgs := rfl
@[simp] theorem Part.setEmg_emg (p : Part) (v : EmergencyUnit) : (p.setEmg v).emg = v := rfl
@[simp] theorem Part.setEmg_sign (p : Part) (v : EmergencyUnit) : (p.setEmg v).sign = p.sign := rfl
@[simp] theorem Part.setEmg_mgmt (p : Part) (v : EmergencyUnit) : (p.setEmg v).mgmt = p.mgmt := rfl
@[simp] theorem Part.setEmg_port (p : Part) (v : EmergencyUnit) : (p.setEmg v).port = p.port := rfl
@[simp] theorem Part.setEmg_lines (p : Part) (v : EmergencyUnit) : (p.setEmg v).lines = p.lines := rfl
@[simp] theorem Part.setEmg_air (p : Part) (v : EmergencyUnit) : (p.setEmg v).air = p.air := rfl
@[simp] theorem Part.setEmg_sig (p : Part) (v : EmergencyUnit) : (p.setEmg v).sig = p.sig := rfl
@[simp] theorem Part.setEmg_draws (p : Part) (v : EmergencyUnit) : (p.setEmg v).draws = p.draws := rfl

@[simp] theorem Part.setSign_ctl (p : Part) (v : SignDriver) : (p.setSign v).ctl = p.ctl := rfl
@[simp] theorem Part.setSign_queue (p : Part) (v : SignDriver) : (p.setSign v).queue = p.queue := rfl
@[simp] theorem Part.setSign_zones (p : Part) (v : SignDriver) : (p.setSign v).zones = p.zones := rfl
@[simp] theorem Part.setSign_offers (p : Part) (v : SignDriver) : (p.setSign v).offers = p.offers := rfl
@[simp] theorem Part.setSign_meter (p : Part) (v : SignDriver) : (p.setSign v).meter = p.meter := rfl
@[simp] theorem Part.setSign_tariff (p : Part) (v : SignDriver) : (p.setSign v).tariff = p.tariff := rfl
@[simp] theorem Part.setSign_clock (p : Part) (v : SignDriver) : (p.setSign v).clock = p.clock := rfl
@[simp] theorem Part.setSign_log (p : Part) (v : SignDriver) : (p.setSign v).log = p.log := rfl
@[simp] theorem Part.setSign_msgs (p : Part) (v : SignDriver) : (p.setSign v).msgs = p.msgs := rfl
@[simp] theorem Part.setSign_emg (p : Part) (v : SignDriver) : (p.setSign v).emg = p.emg := rfl
@[simp] theorem Part.setSign_sign (p : Part) (v : SignDriver) : (p.setSign v).sign = v := rfl
@[simp] theorem Part.setSign_mgmt (p : Part) (v : SignDriver) : (p.setSign v).mgmt = p.mgmt := rfl
@[simp] theorem Part.setSign_port (p : Part) (v : SignDriver) : (p.setSign v).port = p.port := rfl
@[simp] theorem Part.setSign_lines (p : Part) (v : SignDriver) : (p.setSign v).lines = p.lines := rfl
@[simp] theorem Part.setSign_air (p : Part) (v : SignDriver) : (p.setSign v).air = p.air := rfl
@[simp] theorem Part.setSign_sig (p : Part) (v : SignDriver) : (p.setSign v).sig = p.sig := rfl
@[simp] theorem Part.setSign_draws (p : Part) (v : SignDriver) : (p.setSign v).draws = p.draws := rfl

@[simp] theorem Part.setMgmt_ctl (p : Part) (v : Management) : (p.setMgmt v).ctl = p.ctl := rfl
@[simp] theorem Part.setMgmt_queue (p : Part) (v : Management) : (p.setMgmt v).queue = p.queue := rfl
@[simp] theorem Part.setMgmt_zones (p : Part) (v : Management) : (p.setMgmt v).zones = p.zones := rfl
@[simp] theorem Part.setMgmt_offers (p : Part) (v : Management) : (p.setMgmt v).offers = p.offers := rfl
@[simp] theorem Part.setMgmt_meter (p : Part) (v : Management) : (p.setMgmt v).meter = p.meter := rfl
@[simp] theorem Part.setMgmt_tariff (p : Part) (v : Management) : (p.setMgmt v).tariff = p.tariff := rfl
@[simp] theorem Part.setMgmt_clock (p : Part) (v : Management) : (p.setMgmt v).clock = p.clock := rfl
@[simp] theorem Part.setMgmt_log (p : Part) (v : Management) : (p.setMgmt v).log = p.log := rfl
@[simp] theorem Part.setMgmt_msgs (p : Part) (v : Management) : (p.setMgmt v).msgs = p.msgs := rfl
@[simp] theorem Part.setMgmt_emg (p : Part) (v : Management) : (p.setMgmt v).emg = p.emg := rfl
@[simp] theorem Part.setMgmt_sign (p : Part) (v : Management) : (p.setMgmt v).sign = p.sign := rfl
@[simp] theorem Part.setMgmt_mgmt (p : Part) (v : Management) : (p.setMgmt v).mgmt = v := rfl
@[simp] theorem Part.setMgmt_port (p : Part) (v : Management) : (p.setMgmt v).port = p.port := rfl
@[simp] theorem Part.setMgmt_lines (p : Part) (v : Management) : (p.setMgmt v).lines = p.lines := rfl
@[simp] theorem Part.setMgmt_air (p : Part) (v : Management) : (p.setMgmt v).air = p.air := rfl
@[simp] theorem Part.setMgmt_sig (p : Part) (v : Management) : (p.setMgmt v).sig = p.sig := rfl
@[simp] theorem Part.setMgmt_draws (p : Part) (v : Management) : (p.setMgmt v).draws = p.draws := rfl

@[simp] theorem Part.setPort_ctl (p : Part) (v : CabPort) : (p.setPort v).ctl = p.ctl := rfl
@[simp] theorem Part.setPort_queue (p : Part) (v : CabPort) : (p.setPort v).queue = p.queue := rfl
@[simp] theorem Part.setPort_zones (p : Part) (v : CabPort) : (p.setPort v).zones = p.zones := rfl
@[simp] theorem Part.setPort_offers (p : Part) (v : CabPort) : (p.setPort v).offers = p.offers := rfl
@[simp] theorem Part.setPort_meter (p : Part) (v : CabPort) : (p.setPort v).meter = p.meter := rfl
@[simp] theorem Part.setPort_tariff (p : Part) (v : CabPort) : (p.setPort v).tariff = p.tariff := rfl
@[simp] theorem Part.setPort_clock (p : Part) (v : CabPort) : (p.setPort v).clock = p.clock := rfl
@[simp] theorem Part.setPort_log (p : Part) (v : CabPort) : (p.setPort v).log = p.log := rfl
@[simp] theorem Part.setPort_msgs (p : Part) (v : CabPort) : (p.setPort v).msgs = p.msgs := rfl
@[simp] theorem Part.setPort_emg (p : Part) (v : CabPort) : (p.setPort v).emg = p.emg := rfl
@[simp] theorem Part.setPort_sign (p : Part) (v : CabPort) : (p.setPort v).sign = p.sign := rfl
@[simp] theorem Part.setPort_mgmt (p : Part) (v : CabPort) : (p.setPort v).mgmt = p.mgmt := rfl
@[simp] theorem Part.setPort_port (p : Part) (v : CabPort) : (p.setPort v).port = v := rfl
@[simp] theorem Part.setPort_lines (p : Part) (v : CabPort) : (p.setPort v).lines = p.lines := rfl
@[simp] theorem Part.setPort_air (p : Part) (v : CabPort) : (p.setPort v).air = p.air := rfl
@[simp] theorem Part.setPort_sig (p : Part) (v : CabPort) : (p.setPort v).sig = p.sig := rfl
@[simp] theorem Part.setPort_draws (p : Part) (v : CabPort) : (p.setPort v).draws = p.draws := rfl

@[simp] theorem Part.setLines_ctl (p : Part) (v : Lines) : (p.setLines v).ctl = p.ctl := rfl
@[simp] theorem Part.setLines_queue (p : Part) (v : Lines) : (p.setLines v).queue = p.queue := rfl
@[simp] theorem Part.setLines_zones (p : Part) (v : Lines) : (p.setLines v).zones = p.zones := rfl
@[simp] theorem Part.setLines_offers (p : Part) (v : Lines) : (p.setLines v).offers = p.offers := rfl
@[simp] theorem Part.setLines_meter (p : Part) (v : Lines) : (p.setLines v).meter = p.meter := rfl
@[simp] theorem Part.setLines_tariff (p : Part) (v : Lines) : (p.setLines v).tariff = p.tariff := rfl
@[simp] theorem Part.setLines_clock (p : Part) (v : Lines) : (p.setLines v).clock = p.clock := rfl
@[simp] theorem Part.setLines_log (p : Part) (v : Lines) : (p.setLines v).log = p.log := rfl
@[simp] theorem Part.setLines_msgs (p : Part) (v : Lines) : (p.setLines v).msgs = p.msgs := rfl
@[simp] theorem Part.setLines_emg (p : Part) (v : Lines) : (p.setLines v).emg = p.emg := rfl
@[simp] theorem Part.setLines_sign (p : Part) (v : Lines) : (p.setLines v).sign = p.sign := rfl
@[simp] theorem Part.setLines_mgmt (p : Part) (v : Lines) : (p.setLines v).mgmt = p.mgmt := rfl
@[simp] theorem Part.setLines_port (p : Part) (v : Lines) : (p.setLines v).port = p.port := rfl
@[simp] theorem Part.setLines_lines (p : Part) (v : Lines) : (p.setLines v).lines = v := rfl
@[simp] theorem Part.setLines_air (p : Part) (v : Lines) : (p.setLines v).air = p.air := rfl
@[simp] theorem Part.setLines_sig (p : Part) (v : Lines) : (p.setLines v).sig = p.sig := rfl
@[simp] theorem Part.setLines_draws (p : Part) (v : Lines) : (p.setLines v).draws = p.draws := rfl

@[simp] theorem Part.setAir_ctl (p : Part) (v : List Burst) : (p.setAir v).ctl = p.ctl := rfl
@[simp] theorem Part.setAir_queue (p : Part) (v : List Burst) : (p.setAir v).queue = p.queue := rfl
@[simp] theorem Part.setAir_zones (p : Part) (v : List Burst) : (p.setAir v).zones = p.zones := rfl
@[simp] theorem Part.setAir_offers (p : Part) (v : List Burst) : (p.setAir v).offers = p.offers := rfl
@[simp] theorem Part.setAir_meter (p : Part) (v : List Burst) : (p.setAir v).meter = p.meter := rfl
@[simp] theorem Part.setAir_tariff (p : Part) (v : List Burst) : (p.setAir v).tariff = p.tariff := rfl
@[simp] theorem Part.setAir_clock (p : Part) (v : List Burst) : (p.setAir v).clock = p.clock := rfl
@[simp] theorem Part.setAir_log (p : Part) (v : List Burst) : (p.setAir v).log = p.log := rfl
@[simp] theorem Part.setAir_msgs (p : Part) (v : List Burst) : (p.setAir v).msgs = p.msgs := rfl
@[simp] theorem Part.setAir_emg (p : Part) (v : List Burst) : (p.setAir v).emg = p.emg := rfl
@[simp] theorem Part.setAir_sign (p : Part) (v : List Burst) : (p.setAir v).sign = p.sign := rfl
@[simp] theorem Part.setAir_mgmt (p : Part) (v : List Burst) : (p.setAir v).mgmt = p.mgmt := rfl
@[simp] theorem Part.setAir_port (p : Part) (v : List Burst) : (p.setAir v).port = p.port := rfl
@[simp] theorem Part.setAir_lines (p : Part) (v : List Burst) : (p.setAir v).lines = p.lines := rfl
@[simp] theorem Part.setAir_air (p : Part) (v : List Burst) : (p.setAir v).air = v := rfl
@[simp] theorem Part.setAir_sig (p : Part) (v : List Burst) : (p.setAir v).sig = p.sig := rfl
@[simp] theorem Part.setAir_draws (p : Part) (v : List Burst) : (p.setAir v).draws = p.draws := rfl

@[simp] theorem Part.setSig_ctl (p : Part) (v : CycleSignals) : (p.setSig v).ctl = p.ctl := rfl
@[simp] theorem Part.setSig_queue (p : Part) (v : CycleSignals) : (p.setSig v).queue = p.queue := rfl
@[simp] theorem Part.setSig_zones (p : Part) (v : CycleSignals) : (p.setSig v).zones = p.zones := rfl
@[simp] theorem Part.setSig_offers (p : Part) (v : CycleSignals) : (p.setSig v).offers = p.offers := rfl
@[simp] theorem Part.setSig_meter (p : Part) (v : CycleSignals) : (p.setSig v).meter = p.meter := rfl
@[simp] theorem Part.setSig_tariff (p : Part) (v : CycleSignals) : (p.setSig v).tariff = p.tariff := rfl
@[simp] theorem Part.setSig_clock (p : Part) (v : CycleSignals) : (p.setSig v).clock = p.clock := rfl
@[simp] theorem Part.setSig_log (p : Part) (v : CycleSignals) : (p.setSig v).log = p.log := rfl
@[simp] theorem Part.setSig_msgs (p : Part) (v : CycleSignals) : (p.setSig v).msgs = p.msgs := rfl
@[simp] theorem Part.setSig_emg (p : Part) (v : CycleSignals) : (p.setSig v).emg = p.emg := rfl
@[simp] theorem Part.setSig_sign (p : Part) (v : CycleSignals) : (p.setSig v).sign = p.sign := rfl
@[simp] theorem Part.setSig_mgmt (p : Part) (v : CycleSignals) : (p.setSig v).mgmt = p.mgmt := rfl
@[simp] theorem Part.setSig_port (p : Part) (v : CycleSignals) : (p.setSig v).port = p.port := rfl
@[simp] theorem Part.setSig_lines (p : Part) (v : CycleSignals) : (p.setSig v).lines = p.lines := rfl
@[simp] theorem Part.setSig_air (p : Part) (v : CycleSignals) : (p.setSig v).air = p.air := rfl
@[simp] theorem Part.setSig_sig (p : Part) (v : CycleSignals) : (p.setSig v).sig = v := rfl
@[simp] theorem Part.setSig_draws (p : Part) (v : CycleSignals) : (p.setSig v).draws = p.draws := rfl

@[simp] theorem Part.setDraws_ctl (p : Part) (v : Nat) : (p.setDraws v).ctl = p.ctl := rfl
@[simp] theorem Part.setDraws_queue (p : Part) (v : Nat) : (p.setDraws v).queue = p.queue := rfl
@[simp] theorem Part.setDraws_zones (p : Part) (v : Nat) : (p.setDraws v).zones = p.zones := rfl
@[simp] theorem Part.setDraws_offers (p : Part) (v : Nat) : (p.setDraws v).offers = p.offers := rfl
@[simp] theorem Part.setDraws_meter (p : Part) (v : Nat) : (p.setDraws v).meter = p.meter := rfl
@[simp] theorem Part.setDraws_tariff (p : Part) (v : Nat) : (p.setDraws v).tariff = p.tariff := rfl
@[simp] theorem Part.setDraws_clock (p : Part) (v : Nat) : (p.setDraws v).clock = p.clock := rfl
@[simp] theorem Part.setDraws_log (p : Part) (v : Nat) : (p.setDraws v).log = p.log := rfl
@[simp] theorem Part.setDraws_msgs (p : Part) (v : Nat) : (p.setDraws v).msgs = p.msgs := rfl
@[simp] theorem Part.setDraws_emg (p : Part) (v : Nat) : (p.setDraws v).emg = p.emg := rfl
@[simp] theorem Part.setDraws_sign (p : Part) (v : Nat) : (p.setDraws v).sign = p.sign := rfl
@[simp] theorem Part.setDraws_mgmt (p : Part) (v : Nat) : (p.setDraws v).mgmt = p.mgmt := rfl
@[simp] theorem Part.setDraws_port (p : Part) (v : Nat) : (p.setDraws v).port = p.port := rfl
@[simp] theorem Part.setDraws_lines (p : Part) (v : Nat) : (p.setDraws v).lines = p.lines := rfl
@[simp] theorem Part.setDraws_air (p : Part) (v : Nat) : (p.setDraws v).air = p.air := rfl
@[simp] theorem Part.setDraws_sig (p : Part) (v : Nat) : (p.setDraws v).sig = p.sig := rfl
@[simp] theorem Part.setDraws_draws (p : Part) (v : Nat) : (p.setDraws v).draws = v := rfl

end Sys2Proof.Machine
end

