-- ==== Sys2Proof/Laws/Frames.lean ====
section
/-! SUPPORT. Frames: how "nothing changes outside the parts named" is composed, read off, and given for each update. -/

namespace Sys2Proof.Machine

-- Proofs one after another: in parallel, in the package as one text, each would wait for the kernel on a thread of its own.
set_option Elab.async false

/-! ### Composition -/

theorem Part.same_refl (p : Part) (b : Block) : p.same p b := by cases b <;> rfl

theorem Part.same_trans {p q r : Part} {b : Block} (h : p.same q b) (k : q.same r b) : p.same r b := by
  cases b <;> simp_all [Part.same]

/-- From a state to itself nothing changes. -/
theorem frame_refl {bs : List Block} (p : Part) : Part.changesOnly bs p p := fun b _ => p.same_refl b

/-- A change within some parts is one within more parts. -/
theorem frame_mono {bs cs : List Block} {p q : Part} (h : Part.changesOnly bs p q) (hs : ∀ b ∈ bs, b ∈ cs) :
    Part.changesOnly cs p q := fun b hb => h b (fun hc => hb (hs b hc))

/-- Two changes in a row. -/
theorem frame_trans {bs : List Block} {p q r : Part} (h : Part.changesOnly bs p q) (k : Part.changesOnly bs q r) :
    Part.changesOnly bs p r := fun b hb => Part.same_trans (h b hb) (k b hb)

/-- Two changes in a row, each within parts of its own. -/
theorem frame_step {bs cs ds : List Block} {p q r : Part} (h : Part.changesOnly bs p q) (k : Part.changesOnly cs q r)
    (hb : ∀ b ∈ bs, b ∈ ds := by decide) (hc : ∀ b ∈ cs, b ∈ ds := by decide) : Part.changesOnly ds p r :=
  frame_trans (frame_mono h hb) (frame_mono k hc)

/-- A change made in one of two ways. -/
theorem frame_ite {bs : List Block} {c : Prop} [Decidable c] {p q r : Part} (h : Part.changesOnly bs p q)
    (k : Part.changesOnly bs p r) : Part.changesOnly bs p (if c then q else r) := by
  split
  · exact h
  · exact k

/-- A change made again and again over a list. -/
theorem frame_foldl {α : Type} {bs : List Block} (f : Part → α → Part) (h : ∀ p a, Part.changesOnly bs p (f p a)) :
    ∀ (l : List α) (p : Part), Part.changesOnly bs p (l.foldl f p)
  | [], p => frame_refl p
  | a :: l, p => frame_trans (h p a) (frame_foldl f h l (f p a))

/-! ### Reading a frame off -/

theorem Part.changesOnly.ctl {bs : List Block} {p q : Part} (h : Part.changesOnly bs p q) (hb : Block.ctl ∉ bs := by decide) :
    q.ctl = p.ctl := h .ctl hb

theorem Part.changesOnly.queue {bs : List Block} {p q : Part} (h : Part.changesOnly bs p q) (hb : Block.queue ∉ bs := by decide) :
    q.queue = p.queue := h .queue hb

theorem Part.changesOnly.zones {bs : List Block} {p q : Part} (h : Part.changesOnly bs p q) (hb : Block.zones ∉ bs := by decide) :
    q.zones = p.zones := h .zones hb

theorem Part.changesOnly.offers {bs : List Block} {p q : Part} (h : Part.changesOnly bs p q) (hb : Block.offers ∉ bs := by decide) :
    q.offers = p.offers := h .offers hb

theorem Part.changesOnly.meter {bs : List Block} {p q : Part} (h : Part.changesOnly bs p q) (hb : Block.meter ∉ bs := by decide) :
    q.meter = p.meter := h .meter hb

theorem Part.changesOnly.tariff {bs : List Block} {p q : Part} (h : Part.changesOnly bs p q) (hb : Block.tariff ∉ bs := by decide) :
    q.tariff = p.tariff := h .tariff hb

theorem Part.changesOnly.clock {bs : List Block} {p q : Part} (h : Part.changesOnly bs p q) (hb : Block.clock ∉ bs := by decide) :
    q.clock = p.clock := h .clock hb

theorem Part.changesOnly.log {bs : List Block} {p q : Part} (h : Part.changesOnly bs p q) (hb : Block.log ∉ bs := by decide) :
    q.log = p.log := h .log hb

theorem Part.changesOnly.msgs {bs : List Block} {p q : Part} (h : Part.changesOnly bs p q) (hb : Block.msgs ∉ bs := by decide) :
    q.msgs = p.msgs := h .msgs hb

theorem Part.changesOnly.emg {bs : List Block} {p q : Part} (h : Part.changesOnly bs p q) (hb : Block.emg ∉ bs := by decide) :
    q.emg = p.emg := h .emg hb

theorem Part.changesOnly.sign {bs : List Block} {p q : Part} (h : Part.changesOnly bs p q) (hb : Block.sign ∉ bs := by decide) :
    q.sign = p.sign := h .sign hb

theorem Part.changesOnly.mgmt {bs : List Block} {p q : Part} (h : Part.changesOnly bs p q) (hb : Block.mgmt ∉ bs := by decide) :
    q.mgmt = p.mgmt := h .mgmt hb

theorem Part.changesOnly.port {bs : List Block} {p q : Part} (h : Part.changesOnly bs p q) (hb : Block.port ∉ bs := by decide) :
    q.port = p.port := h .port hb

theorem Part.changesOnly.lines {bs : List Block} {p q : Part} (h : Part.changesOnly bs p q) (hb : Block.lines ∉ bs := by decide) :
    q.lines = p.lines := h .lines hb

theorem Part.changesOnly.air {bs : List Block} {p q : Part} (h : Part.changesOnly bs p q) (hb : Block.air ∉ bs := by decide) :
    q.air = p.air := h .air hb

theorem Part.changesOnly.sig {bs : List Block} {p q : Part} (h : Part.changesOnly bs p q) (hb : Block.sig ∉ bs := by decide) :
    q.sig = p.sig := h .sig hb

theorem Part.changesOnly.draws {bs : List Block} {p q : Part} (h : Part.changesOnly bs p q) (hb : Block.draws ∉ bs := by decide) :
    q.draws = p.draws := h .draws hb

/-! ### The updates -/

theorem setCtl_frame (p : Part) (v : Controller) : Part.changesOnly [.ctl] p (p.setCtl v) := by
  intro b hb
  cases b <;> first | rfl | (exact absurd (by simp) hb)

theorem setQueue_frame (p : Part) (v : Queue) : Part.changesOnly [.queue] p (p.setQueue v) := by
  intro b hb
  cases b <;> first | rfl | (exact absurd (by simp) hb)

theorem setZones_frame (p : Part) (v : Resolver) : Part.changesOnly [.zones] p (p.setZones v) := by
  intro b hb
  cases b <;> first | rfl | (exact absurd (by simp) hb)

theorem setOffers_frame (p : Part) (v : List Offer) : Part.changesOnly [.offers] p (p.setOffers v) := by
  intro b hb
  cases b <;> first | rfl | (exact absurd (by simp) hb)

theorem setMeter_frame (p : Part) (v : Meter) : Part.changesOnly [.meter] p (p.setMeter v) := by
  intro b hb
  cases b <;> first | rfl | (exact absurd (by simp) hb)

theorem setTariff_frame (p : Part) (v : TariffStore) : Part.changesOnly [.tariff] p (p.setTariff v) := by
  intro b hb
  cases b <;> first | rfl | (exact absurd (by simp) hb)

theorem setClock_frame (p : Part) (v : TimeBase) : Part.changesOnly [.clock] p (p.setClock v) := by
  intro b hb
  cases b <;> first | rfl | (exact absurd (by simp) hb)

theorem setLog_frame (p : Part) (v : TripLog) : Part.changesOnly [.log] p (p.setLog v) := by
  intro b hb
  cases b <;> first | rfl | (exact absurd (by simp) hb)

theorem setMsgs_frame (p : Part) (v : MessageStore) : Part.changesOnly [.msgs] p (p.setMsgs v) := by
  intro b hb
  cases b <;> first | rfl | (exact absurd (by simp) hb)

theorem setEmg_frame (p : Part) (v : EmergencyUnit) : Part.changesOnly [.emg] p (p.setEmg v) := by
  intro b hb
  cases b <;> first | rfl | (exact absurd (by simp) hb)

theorem setSign_frame (p : Part) (v : SignDriver) : Part.changesOnly [.sign] p (p.setSign v) := by
  intro b hb
  cases b <;> first | rfl | (exact absurd (by simp) hb)

theorem setMgmt_frame (p : Part) (v : Management) : Part.changesOnly [.mgmt] p (p.setMgmt v) := by
  intro b hb
  cases b <;> first | rfl | (exact absurd (by simp) hb)

theorem setPort_frame (p : Part) (v : CabPort) : Part.changesOnly [.port] p (p.setPort v) := by
  intro b hb
  cases b <;> first | rfl | (exact absurd (by simp) hb)

theorem setLines_frame (p : Part) (v : Lines) : Part.changesOnly [.lines] p (p.setLines v) := by
  intro b hb
  cases b <;> first | rfl | (exact absurd (by simp) hb)

theorem setAir_frame (p : Part) (v : List Burst) : Part.changesOnly [.air] p (p.setAir v) := by
  intro b hb
  cases b <;> first | rfl | (exact absurd (by simp) hb)

theorem setSig_frame (p : Part) (v : CycleSignals) : Part.changesOnly [.sig] p (p.setSig v) := by
  intro b hb
  cases b <;> first | rfl | (exact absurd (by simp) hb)

theorem setDraws_frame (p : Part) (v : Nat) : Part.changesOnly [.draws] p (p.setDraws v) := by
  intro b hb
  cases b <;> first | rfl | (exact absurd (by simp) hb)

end Sys2Proof.Machine
end

