-- ==== Sys2Proof/Laws/Ops.lean ====
section
/-! SUPPORT. What each shared operation of Ops.lean and Flags.lean can do: its frame, and its result where a proof needs
it. -/

namespace Sys2Proof.Machine

-- Proofs one after another: in parallel, in the package as one text, each would wait for the kernel on a thread of its own.
set_option Elab.async false

/-! ### The outbound list -/

theorem placeResponse_frame (req item : Nat) (code : RespCode) (body : RespBody) (p : Part) :
    Part.changesOnly [.port] p (placeResponse req item code body p) := by
  unfold placeResponse; split
  · exact setPort_frame _ _
  · exact frame_refl p

theorem placeNotice_frame (body : NoticeBody) (p : Part) : Part.changesOnly [.port] p (placeNotice body p) := by
  unfold placeNotice; split
  · exact setPort_frame _ _
  · exact setPort_frame _ _

/-- A notice leaves the responses and the outstanding request as they are, and adds at most itself to the notices. -/
theorem placeNotice_port (body : NoticeBody) (p : Part) :
    responses (placeNotice body p) = responses p ∧ (placeNotice body p).port.outstanding = p.port.outstanding ∧
      (notices (placeNotice body p) = notices p ++ [.notice body p.port.overflow] ∨
        notices (placeNotice body p) = notices p ∧ 32 ≤ (notices p).length) := by
  unfold placeNotice
  split
  · rename_i h
    refine ⟨?_, rfl, .inl ?_⟩
    · simp [responses, isResponse]
    · simp [notices, isResponse]
  · rename_i h
    exact ⟨rfl, rfl, .inr ⟨rfl, Nat.le_of_not_lt h⟩⟩

@[simp] theorem placeNotice_responses (body : NoticeBody) (p : Part) : responses (placeNotice body p) = responses p :=
  (placeNotice_port body p).1

@[simp] theorem placeNotice_outstanding (body : NoticeBody) (p : Part) :
    (placeNotice body p).port.outstanding = p.port.outstanding := (placeNotice_port body p).2.1

/-- The room for notices is kept. -/
theorem placeNotice_room (body : NoticeBody) (p : Part) (h : (notices p).length ≤ 32) :
    (notices (placeNotice body p)).length ≤ 32 := by
  unfold placeNotice
  split
  · rename_i k
    have : (notices p).length < 32 := k
    simp [notices, isResponse] at *
    omega
  · exact h

/-- Given room, a notice stands last in the list, as its body. -/
theorem placeNotice_bodies (body : NoticeBody) (p : Part) (h : noticeRoom p) :
    noticeBodies (placeNotice body p) = noticeBodies p ++ [body] := by
  unfold placeNotice
  rw [if_pos (show (p.port.outbound.filter (fun o => !isResponse o)).length < 32 from h)]
  simp [noticeBodies]

/-- A response leaves the bodies of the notices as they are. -/
@[simp] theorem placeResponse_bodies (req item : Nat) (code : RespCode) (body : RespBody) (p : Part) :
    noticeBodies (placeResponse req item code body p) = noticeBodies p := by
  unfold placeResponse; split <;> simp [noticeBodies]

@[simp] theorem placeResponse_notices (req item : Nat) (code : RespCode) (body : RespBody) (p : Part) :
    notices (placeResponse req item code body p) = notices p := by
  unfold placeResponse; split <;> simp [notices, isResponse]

@[simp] theorem placeResponse_outstanding (req item : Nat) (code : RespCode) (body : RespBody) (p : Part) :
    (placeResponse req item code body p).port.outstanding = p.port.outstanding := by
  unfold placeResponse; split <;> rfl

/-- The room for responses is kept. -/
theorem placeResponse_room (req item : Nat) (code : RespCode) (body : RespBody) (p : Part) (h : (responses p).length ≤ 4) :
    (responses (placeResponse req item code body p)).length ≤ 4 := by
  unfold placeResponse
  split
  · rename_i k
    have e : responses (p.setPort { p.port with outbound := p.port.outbound ++ [.response req item code body] }) =
        responses p ++ [.response req item code body] := by simp [responses, List.filter_append]; rfl
    have : (responses p).length < 4 := k
    rw [e]; simp; omega
  · exact h

/-- With room, a response is placed last. -/
theorem placeResponse_responses (req item : Nat) (code : RespCode) (body : RespBody) (p : Part)
    (h : (responses p).length < 4) :
    responses (placeResponse req item code body p) = responses p ++ [.response req item code body] := by
  unfold placeResponse
  have k : (p.port.outbound.filter isResponse).length < 4 := h
  rw [if_pos k]
  simp [responses, List.filter_append]
  rfl

/-! ### Requests -/

theorem answer_frame (code : RespCode) (body : RespBody) (p : Part) : Part.changesOnly [.port] p (answer code body p) := by
  unfold answer
  split
  · exact frame_refl p
  · simp only
    split
    · exact setPort_frame _ _
    · exact frame_trans (setPort_frame _ _) (placeResponse_frame _ _ _ _ _)

/-- After an answer no request is outstanding. -/
@[simp] theorem answer_outstanding (code : RespCode) (body : RespBody) (p : Part) :
    (answer code body p).port.outstanding = none := by
  unfold answer
  split
  · assumption
  · simp only
    split <;> simp

@[simp] theorem answer_notices (code : RespCode) (body : RespBody) (p : Part) :
    notices (answer code body p) = notices p := by
  unfold answer
  split
  · rfl
  · simp only
    split
    · rfl
    · exact placeResponse_notices _ _ _ _ _

theorem answer_room (code : RespCode) (body : RespBody) (p : Part) (h : (responses p).length ≤ 4) :
    (responses (answer code body p)).length ≤ 4 := by
  unfold answer
  split
  · exact h
  · simp only
    split
    · exact h
    · exact placeResponse_room _ _ _ _ _ h

/-- The answer to an outstanding request that is not to be discarded, with room in the list. -/
theorem answer_responses (code : RespCode) (body : RespBody) (p : Part) (req item : Nat)
    (ho : p.port.outstanding = some ⟨req, item, false⟩) (h : (responses p).length < 4) :
    responses (answer code body p) = responses p ++ [.response req item code body] := by
  unfold answer
  rw [ho]
  exact placeResponse_responses _ _ _ _ _ h

theorem takeRequest_frame {bs : List Block} (req item : Nat) (owner : Part → Part) (p : Part)
    (h : ∀ q, Part.changesOnly bs q (owner q)) (hp : Block.port ∈ bs) : Part.changesOnly bs p (takeRequest req item owner p) := by
  have hm : ∀ b ∈ [Block.port], b ∈ bs := by intro b hb; simp at hb; exact hb ▸ hp
  unfold takeRequest
  split
  · exact frame_mono (placeResponse_frame _ _ _ _ _) hm
  · exact frame_trans (frame_mono (setPort_frame _ _) hm) (h _)

theorem takeRequestWith_frame {α : Type} {bs : List Block} (req item : Nat) (param : Option α) (owner : α → Part → Part)
    (p : Part) (h : ∀ a q, Part.changesOnly bs q (owner a q)) (hp : Block.port ∈ bs) :
    Part.changesOnly bs p (takeRequestWith req item param owner p) := by
  have hm : ∀ b ∈ [Block.port], b ∈ bs := by intro b hb; simp at hb; exact hb ▸ hp
  unfold takeRequestWith
  split
  · exact frame_mono (placeResponse_frame _ _ _ _ _) hm
  · exact takeRequest_frame _ _ _ _ (h _) hp

/-- A request taken while the port is free is handed to its owner as the outstanding one. -/
theorem takeRequest_free (req item : Nat) (owner : Part → Part) (p : Part) (h : p.port.outstanding = none) :
    takeRequest req item owner p = owner (p.setPort { p.port with outstanding := some ⟨req, item, false⟩ }) := by
  unfold takeRequest; rw [h]

/-! ### The acquisition state and the wake -/

theorem setAcq_frame (a : AcqState) (p : Part) : Part.changesOnly [.ctl, .port] p (setAcq a p) := by
  unfold setAcq
  split
  · exact frame_refl p
  · exact frame_step (setCtl_frame _ _) (placeNotice_frame _ _)

@[simp] theorem placeNotice_ctl (body : NoticeBody) (p : Part) : (placeNotice body p).ctl = p.ctl :=
  (placeNotice_frame body p).ctl

@[simp] theorem setAcq_ctl (a : AcqState) (p : Part) : (setAcq a p).ctl = { p.ctl with acq := a } := by
  unfold setAcq
  split
  · rename_i h; rw [← h]
  · simp

theorem wake_frame (p : Part) : Part.changesOnly [.ctl, .port] p (wake p) := by
  unfold wake
  split
  · exact frame_step (setCtl_frame _ _) (setAcq_frame _ _)
  · exact frame_refl p

/-- A wake changes the controller only out of PARKED, into HOLDOVER with a missed count of 0. -/
theorem wake_ctl (p : Part) :
    (wake p).ctl = if p.ctl.acq = .parked then { p.ctl with acq := .holdover, missed := 0 } else p.ctl := by
  unfold wake
  split <;> simp

/-! ### Receive filter, free choices, flags -/

theorem receiveFrame_frame {bs : List Block} (h : AirHeader) (owner : Part → Part) (p : Part)
    (k : ∀ q, Part.changesOnly bs q (owner q)) : Part.changesOnly bs p (receiveFrame h owner p) := by
  unfold receiveFrame
  split
  · exact k p
  · exact frame_refl p

theorem drawn_frame (p : Part) : Part.changesOnly [.draws] p (drawn p) := setDraws_frame _ _

theorem setFlag_frame (f : Flag) (p : Part) : Part.changesOnly [.mgmt] p (setFlag f p) := setMgmt_frame _ _

theorem clearFlags_frame (fs : List Flag) (p : Part) : Part.changesOnly [.mgmt] p (clearFlags fs p) := setMgmt_frame _ _

/-- A flag put is the flag read; the others are as before. -/
theorem flagGet_put (f : StatusFlags) (v : Bool) (a b : Flag) :
    flagGet (flagPut f v a) b = if a = b then v else flagGet f b := by cases a <;> cases b <;> rfl

/-- A reported flag is set; the others are as before (R198). -/
theorem flagOf_setFlag (a b : Flag) (p : Part) : flagOf (setFlag a p) b = if a = b then true else flagOf p b :=
  flagGet_put _ _ _ _

end Sys2Proof.Machine
end

