-- ==== Sys2Proof/Laws/Uplink.lean ====
section
/-! SUPPORT. What the operations of the uplink queue can do: their frames, by the class of the body, and who is evicted. -/

namespace Sys2Proof.Machine

-- Proofs one after another: in parallel, in the package as one text, each would wait for the kernel on a thread of its own.
set_option Elab.async false

/-! ### Entries -/

theorem withEntries_frame (es : List Entry) (p : Part) : Part.changesOnly [.queue] p (withEntries es p) := setQueue_frame _ _

@[simp] theorem withEntries_entries (es : List Entry) (p : Part) : (withEntries es p).queue.entries = es := rfl

theorem addEntry_frame (b : Body) (s x : Option Nat) (p : Part) :
    Part.changesOnly [.queue, .draws] p (addEntry b s x p) := by
  unfold addEntry
  exact frame_step (setQueue_frame _ _) (drawn_frame _)

theorem removeEntry_frame (k : Kind) (s : Option Nat) (p : Part) : Part.changesOnly [.queue] p (removeEntry k s p) :=
  withEntries_frame _ _

/-- What stands in the queue after a removal (R40): the entries of another kind or source, and those of this one that were
SENT, marked WITHDRAWN. -/
theorem removeEntry_mem (k : Kind) (s : Option Nat) (p : Part) (x : Entry) :
    x ∈ (removeEntry k s p).queue.entries ↔
      (x ∈ p.queue.entries ∧ entryNamed k s x = false) ∨
        ∃ e ∈ p.queue.entries, entryNamed k s e = true ∧ e.st = .sent ∧ x = { e with mark := some .withdrawn } := by
  simp only [removeEntry, withEntries_entries, List.mem_map, List.mem_filter]
  constructor
  · rintro ⟨e, ⟨he, hf⟩, rfl⟩
    cases hn : entryNamed k s e
    · exact .inl (by simp [hn, he])
    · exact .inr ⟨e, he, hn, by simpa [hn] using hf, by simp⟩
  · rintro (⟨hx, hn⟩ | ⟨e, he, hn, hs, rfl⟩)
    · exact ⟨x, ⟨hx, by simp [hn]⟩, by simp [hn]⟩
    · exact ⟨e, ⟨he, by simp [hs]⟩, by simp [hn]⟩

theorem replaceEntry_frame (t : Nat) (b : Body) (p : Part) : Part.changesOnly [.queue, .draws] p (replaceEntry t b p) := by
  unfold replaceEntry
  exact frame_step (setQueue_frame _ _) (drawn_frame _)

theorem offerFault_frame (f : LinkFault) (p : Part) : Part.changesOnly [.queue] p (offerFault f p) := setQueue_frame _ _

theorem hardFault_frame (c : Cause) (e : Entry) (p : Part) : Part.changesOnly [.queue, .mgmt] p (hardFault c e p) :=
  frame_step (offerFault_frame _ _) (setFlag_frame _ _)

/-! ### Admission and eviction (R33, R34) -/

/-- Only candidates are evicted. -/
theorem evictUntil_evicted (need : Nat) :
    ∀ (cs es : List Entry) (e : Entry), e ∈ (evictUntil need cs es).2 → e ∈ cs
  | [], es, e, h => by simp [evictUntil] at h
  | c :: cs, es, e, h => by
    unfold evictUntil at h
    split at h
    · simp at h
    · simp only [List.mem_cons] at h
      rcases h with rfl | h
      · simp
      · exact List.mem_cons_of_mem _ (evictUntil_evicted need cs _ e h)

/-- Entries left by an eviction were there before. -/
theorem evictUntil_left (need : Nat) :
    ∀ (cs es : List Entry) (e : Entry), e ∈ (evictUntil need cs es).1 → e ∈ es
  | [], es, e, h => by simpa [evictUntil] using h
  | c :: cs, es, e, h => by
    unfold evictUntil at h
    split at h
    · exact h
    · exact (List.mem_filter.1 (evictUntil_left need cs _ e h)).1

/-- An admission evicts WAITING entries of strictly lower classes alone (R33). -/
theorem admitQueue_evicted (b : Body) (s x : Option Nat) (p : Part) (e : Entry) (h : e ∈ (admitQueue b s x p).2.1) :
    e ∈ p.queue.entries ∧ e.st = .waiting ∧ classRank (classOf (kindOf b)) < entryRank e := by
  unfold admitQueue at h
  simp only at h
  split at h
  · have := evictUntil_evicted _ _ _ _ h
    simp [evictionOrder, evictable] at this
    exact this
  · simp at h

/-- A refused admission changes nothing (R33). -/
theorem admitQueue_refused (b : Body) (s x : Option Nat) (p : Part) (h : (admitQueue b s x p).2.2 = false) :
    admitQueue b s x p = (p, [], false) := by
  unfold admitQueue at *
  simp only at *
  split at h
  · simp at h
  · rename_i k; rw [if_neg k]

theorem admitQueue_frame (b : Body) (s x : Option Nat) (p : Part) :
    Part.changesOnly [.queue, .draws, .ctl, .port] p (admitQueue b s x p).1 := by
  unfold admitQueue
  simp only
  split
  · simp only
    split
    · exact frame_step (withEntries_frame _ _) (addEntry_frame _ _ _ _)
    · exact frame_step (frame_step (ds := [.queue, .draws]) (withEntries_frame _ _) (addEntry_frame _ _ _ _)) (wake_frame _)
  · exact frame_refl p

/-- A ROUTINE or BULK admission wakes nothing (R25). -/
theorem admitQueue_low_frame (b : Body) (s x : Option Nat) (p : Part) (hl : isLowClass (classOf (kindOf b)) = true) :
    Part.changesOnly [.queue, .draws] p (admitQueue b s x p).1 := by
  unfold admitQueue
  simp only [hl]
  split
  · exact frame_step (withEntries_frame _ _) (addEntry_frame _ _ _ _)
  · exact frame_refl p

/-! ### Sources -/

theorem closeOffer_frame (id : Nat) (r : CloseReason) (w : Option WithdrawReason) (p : Part) :
    Part.changesOnly [.offers, .port] p (closeOffer id r w p) := by
  unfold closeOffer
  split
  · exact frame_refl p
  · exact frame_step (setOffers_frame _ _) (placeNotice_frame _ _)

theorem moveOffer_frame (id : Nat) (st : OfferState) (b : Bool) (p : Part) :
    Part.changesOnly [.offers, .port] p (moveOffer id st b p) := by
  unfold moveOffer
  split
  · exact frame_refl p
  · exact frame_step (setOffers_frame _ _) (placeNotice_frame _ _)

theorem bidReport_frame (id : Nat) (o : EntryOutcome) (p : Part) : Part.changesOnly [.offers, .port] p (bidReport id o p) := by
  unfold bidReport
  split
  · exact frame_refl p
  · split
    · split
      · exact moveOffer_frame _ _ _ _
      · exact closeOffer_frame _ _ _ _
      · exact moveOffer_frame _ _ _ _
    · exact frame_refl p

/-- A change that reaches the log begins an update or joins the waiting ones, and nothing else of the log changes. -/
theorem addLogChange_joins (c : LogChange) (p : Part) :
    changeJoins c p.log (addLogChange c p).log ∧
      { (addLogChange c p).log with inFlight := p.log.inFlight, waiting := p.log.waiting } = p.log := by
  unfold addLogChange changeJoins
  split <;> rename_i h <;> refine ⟨by simp [h], ?_⟩ <;> rfl

theorem addLogChange_frame (c : LogChange) (p : Part) : Part.changesOnly [.log] p (addLogChange c p) := by
  unfold addLogChange
  split
  · exact setLog_frame _ _
  · exact setLog_frame _ _

theorem setDelivery_frame (n : Nat) (d : Delivery) (p : Part) : Part.changesOnly [.log] p (setDelivery n d p) :=
  setLog_frame _ _

theorem summaryBack_frame (p : Part) : Part.changesOnly [.log] p (summaryBack p) := by
  unfold summaryBack
  split
  · exact setLog_frame _ _
  · exact frame_refl p

theorem summaryDelivered_frame (p : Part) : Part.changesOnly [.log] p (summaryDelivered p) := by
  unfold summaryDelivered
  split
  · exact setLog_frame _ _
  · exact frame_refl p

theorem emergencyAcked_frame (p : Part) : Part.changesOnly [.emg] p (emergencyAcked p) := by
  unfold emergencyAcked
  split
  · exact frame_refl p
  · exact setEmg_frame _ _

theorem actOnEviction_frame (e : Entry) (p : Part) : Part.changesOnly [.offers, .port, .log] p (actOnEviction e p) := by
  unfold actOnEviction
  simp only
  split
  · exact frame_mono (bidReport_frame _ _ _) (by decide)
  · exact frame_mono (placeNotice_frame _ _) (by decide)
  · exact frame_mono (placeNotice_frame _ _) (by decide)
  · exact frame_ite (frame_mono (setDelivery_frame _ _ _) (by decide)) (frame_refl p)
  · exact frame_mono (summaryBack_frame _) (by decide)
  all_goals exact frame_refl p

/-- The eviction of an entry that is not a BID leaves the offers. -/
theorem actOnEviction_frame_notBid (e : Entry) (p : Part) (h : kindOf e.body ≠ .bid) :
    Part.changesOnly [.port, .log] p (actOnEviction e p) := by
  unfold actOnEviction
  simp only
  split
  · exact absurd ‹_› h
  · exact frame_mono (placeNotice_frame _ _) (by decide)
  · exact frame_mono (placeNotice_frame _ _) (by decide)
  · exact frame_ite (frame_mono (setDelivery_frame _ _ _) (by decide)) (frame_refl p)
  · exact frame_mono (summaryBack_frame _) (by decide)
  all_goals exact frame_refl p

/-- The eviction of a BULK entry changes the log alone. -/
theorem actOnEviction_frame_bulk (e : Entry) (p : Part) (h : classRank .routine < entryRank e) :
    Part.changesOnly [.log] p (actOnEviction e p) := by
  unfold actOnEviction
  unfold entryRank entryClass at h
  simp only
  split <;> rename_i hk <;> rw [hk] at h <;> simp [classOf, classRank] at h
  · exact frame_ite (setDelivery_frame _ _ _) (frame_refl p)
  · exact summaryBack_frame _

/-- What the evictions of an admission do, over the entries evicted. -/
theorem evictions_frame {bs : List Block} (es : List Entry) (p : Part)
    (h : ∀ e ∈ es, ∀ q, Part.changesOnly bs q (actOnEviction e q)) :
    Part.changesOnly bs p (es.foldl (fun q e => actOnEviction e q) p) := by
  induction es generalizing p with
  | nil => exact frame_refl p
  | cons e es ih =>
    exact frame_trans (h e (by simp) p) (ih _ (fun x hx => h x (List.mem_cons_of_mem _ hx)))

theorem admitEntry_frame (b : Body) (s x : Option Nat) (p : Part) :
    Part.changesOnly [.queue, .draws, .ctl, .port, .offers, .log] p (admitEntry b s x p).1 :=
  frame_step (admitQueue_frame b s x p) (evictions_frame _ _ (fun e _ => actOnEviction_frame e))

/-- An URGENT admission evicts no BID, so it leaves the offers. -/
theorem admitEntry_urgent_frame (b : Body) (s x : Option Nat) (p : Part) (hc : classOf (kindOf b) = .urgent) :
    Part.changesOnly [.queue, .draws, .ctl, .port, .log] p (admitEntry b s x p).1 := by
  refine frame_step (admitQueue_frame b s x p) (evictions_frame (bs := [.port, .log]) _ _ (fun e he => ?_))
  have hr := (admitQueue_evicted b s x p e he).2.2
  refine fun q => actOnEviction_frame_notBid e q (fun hk => ?_)
  rw [hc, entryRank, entryClass, hk] at hr
  exact absurd hr (by decide)

/-- A ROUTINE admission evicts BULK entries alone, and wakes nothing. -/
theorem admitEntry_routine_frame (b : Body) (s x : Option Nat) (p : Part) (hc : classOf (kindOf b) = .routine) :
    Part.changesOnly [.queue, .draws, .log] p (admitEntry b s x p).1 := by
  refine frame_step (admitQueue_low_frame b s x p (by rw [hc]; rfl))
    (evictions_frame (bs := [.log]) _ _ (fun e he => ?_))
  have hr := (admitQueue_evicted b s x p e he).2.2
  rw [hc] at hr
  exact fun q => actOnEviction_frame_bulk e q hr

/-- A BULK admission evicts nothing. -/
theorem admitQueue_bulk_evicted (b : Body) (s x : Option Nat) (p : Part) (hc : classOf (kindOf b) = .bulk) :
    (admitQueue b s x p).2.1 = [] := by
  apply List.eq_nil_iff_forall_not_mem.2
  intro e he
  have hr := (admitQueue_evicted b s x p e he).2.2
  unfold entryRank entryClass at hr
  rw [hc] at hr
  cases hk : classOf (kindOf e.body) <;> rw [hk] at hr <;> simp [classRank] at hr

theorem admitEntry_bulk_frame (b : Body) (s x : Option Nat) (p : Part) (hc : classOf (kindOf b) = .bulk) :
    Part.changesOnly [.queue, .draws] p (admitEntry b s x p).1 := by
  unfold admitEntry
  simp only
  rw [admitQueue_bulk_evicted b s x p hc]
  exact admitQueue_low_frame b s x p (by rw [hc]; rfl)

theorem offerEntry_frame (b : Body) (s : Option Nat) (p : Part) :
    Part.changesOnly [.queue, .draws, .ctl, .port, .offers, .log] p (offerEntry b s p) := admitEntry_frame _ _ _ _

theorem offerEntry_urgent_frame (b : Body) (s : Option Nat) (p : Part) (hc : classOf (kindOf b) = .urgent) :
    Part.changesOnly [.queue, .draws, .ctl, .port, .log] p (offerEntry b s p) := admitEntry_urgent_frame _ _ _ _ hc

theorem offerEntry_routine_frame (b : Body) (s : Option Nat) (p : Part) (hc : classOf (kindOf b) = .routine) :
    Part.changesOnly [.queue, .draws, .log] p (offerEntry b s p) := admitEntry_routine_frame _ _ _ _ hc

/-! ### Delivery -/

theorem deliveryLoop_frame : ∀ (n : Nat) (p : Part), Part.changesOnly [.queue, .draws, .log] p (deliveryLoop n p)
  | 0, p => frame_refl p
  | n + 1, p => by
    unfold deliveryLoop
    split
    · split
      · exact frame_refl p
      · rename_i r _
        have ha := frame_mono (cs := [.queue, .draws, .log])
          (admitEntry_bulk_frame (tripBody r) (some r.number) (expiryOf (tripBody r) p) p rfl) (by decide)
        simp only
        split
        · exact frame_trans ha (frame_trans (frame_mono (setDelivery_frame _ _ _) (by decide)) (deliveryLoop_frame n _))
        · exact ha
    · exact frame_refl p

theorem deliveryOffer_frame (p : Part) : Part.changesOnly [.queue, .draws, .log] p (deliveryOffer p) := deliveryLoop_frame 2 p

theorem summaryOffer_frame (p : Part) : Part.changesOnly [.queue, .draws, .log] p (summaryOffer p) := by
  unfold summaryOffer
  split
  · rename_i s _
    have ha := frame_mono (cs := [.queue, .draws, .log])
      (admitEntry_bulk_frame (.shiftSummary s) none (expiryOf (.shiftSummary s) p) p rfl) (by decide)
    simp only
    split
    · exact frame_trans ha (frame_mono (setLog_frame _ _) (by decide))
    · exact ha
  · exact frame_refl p

theorem logCycleStart_frame (p : Part) : Part.changesOnly [.queue, .draws, .log] p (logCycleStart p) :=
  frame_trans (deliveryOffer_frame p) (summaryOffer_frame _)

theorem tripReport_frame (n : Nat) (o : EntryOutcome) (p : Part) :
    Part.changesOnly [.queue, .draws, .log] p (tripReport n o p) := by
  unfold tripReport
  split
  · split
    · exact frame_trans (frame_mono (frame_trans (setDelivery_frame _ _ _) (addLogChange_frame _ _)) (by decide))
        (deliveryOffer_frame _)
    · exact frame_trans (frame_mono (setDelivery_frame _ _ _) (by decide)) (deliveryOffer_frame _)
    · exact frame_mono (setDelivery_frame _ _ _) (by decide)
  · exact frame_refl p

theorem actOnReport_frame (r : Report) (p : Part) :
    Part.changesOnly [.queue, .draws, .port, .offers, .log, .emg] p (actOnReport r p) := by
  unfold actOnReport
  simp only
  split
  · exact frame_ite (frame_mono (emergencyAcked_frame _) (by decide)) (frame_refl p)
  · exact frame_ite (frame_mono (emergencyAcked_frame _) (by decide)) (frame_refl p)
  · exact frame_mono (bidReport_frame _ _ _) (by decide)
  · exact frame_refl p
  · exact frame_refl p
  · exact frame_mono (placeNotice_frame _ _) (by decide)
  · split
    · exact frame_refl p
    · exact frame_mono (placeNotice_frame _ _) (by decide)
    · exact frame_mono (placeNotice_frame _ _) (by decide)
  · exact frame_refl p
  · exact frame_refl p
  · exact frame_mono (tripReport_frame _ _ _) (by decide)
  · split
    · exact frame_mono (summaryDelivered_frame _) (by decide)
    · exact frame_mono (summaryBack_frame _) (by decide)
    · exact frame_mono (summaryBack_frame _) (by decide)

theorem deliverReports_frame (rs : List Report) (p : Part) :
    Part.changesOnly [.queue, .draws, .port, .offers, .log, .emg] p (deliverReports rs p) :=
  frame_foldl _ (fun q r => actOnReport_frame r q) rs p

/-! ### Coalescing -/

theorem offerStatus_frame (b : StatusBody) (p : Part) : Part.changesOnly [.queue, .draws, .log] p (offerStatus b p) := by
  unfold offerStatus
  split
  · exact frame_mono (setQueue_frame _ _) (by decide)
  · exact offerEntry_routine_frame _ _ _ rfl

theorem offerEmergency_frame (b : Body) (p : Part) :
    Part.changesOnly [.queue, .draws, .ctl, .port, .offers, .log] p (offerEmergency b p) := by
  unfold offerEmergency
  split
  · exact frame_step (replaceEntry_frame _ _ _) (wake_frame _)
  · split
    · exact frame_mono (setQueue_frame _ _) (by decide)
    · exact offerEntry_frame _ _ _

/-! ### Settlement -/

theorem removeTag_frame (t : Nat) (p : Part) : Part.changesOnly [.queue] p (removeTag t p) := withEntries_frame _ _

theorem admitHeld_frame (b : Body) (p : Part) : Part.changesOnly [.queue, .draws, .ctl, .port] p (admitHeld b p).1 :=
  frame_trans (frame_mono (setQueue_frame _ _) (by decide)) (admitQueue_frame _ _ _ _)

theorem settleAck_frame (t : Nat) (p : Part) : Part.changesOnly [.queue, .draws, .ctl, .port] p (settleAck t p).1 := by
  unfold settleAck
  split
  · exact frame_refl p
  · rename_i e _
    simp only
    have h1 : Part.changesOnly [.queue, .draws, .ctl, .port] p
        (if 3 ≤ e.attempts then
          offerFault (faultOf false (e.lastCause.getD .noAck) e (removeTag t p).ctl.cycle) (removeTag t p)
         else removeTag t p) :=
      frame_ite (frame_step (removeTag_frame _ _) (offerFault_frame _ _)) (frame_mono (removeTag_frame _ _) (by decide))
    split
    · split
      · exact frame_trans h1 (admitHeld_frame _ _)
      · exact h1
    · exact h1

theorem failHard_frame (c : Cause) (e : Entry) (p : Part) : Part.changesOnly [.queue, .mgmt] p (failHard c e p).1 :=
  frame_step (removeTag_frame _ _) (hardFault_frame _ _ _)

theorem returnToWaiting_frame (c : Cause) (e : Entry) (p : Part) :
    Part.changesOnly [.queue, .draws] p (returnToWaiting c e p) := by
  unfold returnToWaiting
  exact frame_step (withEntries_frame _ _) (drawn_frame _)

theorem settleFail_frame (t : Nat) (c : Cause) (p : Part) :
    Part.changesOnly [.queue, .draws, .mgmt] p (settleFail t c p).1 := by
  unfold settleFail
  split
  · exact frame_refl p
  · split
    · exact frame_mono (removeTag_frame _ _) (by decide)
    · split
      · exact frame_mono (removeTag_frame _ _) (by decide)
      · split
        · split
          · exact frame_trans (frame_mono (setQueue_frame _ _) (by decide)) (frame_mono (replaceEntry_frame _ _ _) (by decide))
          · exact frame_refl p
        · split
          · exact frame_mono (failHard_frame _ _ _) (by decide)
          · split
            · exact frame_mono (failHard_frame _ _ _) (by decide)
            · exact frame_mono (returnToWaiting_frame _ _ _) (by decide)

/-- Settlements of one event, over anything that each of them keeps. -/
theorem settleAll_induct {P : Part → Prop} (fs : List (Part → Part × List Report))
    (h : ∀ f ∈ fs, ∀ q, P q → P (f q).1) (p : Part) (hp : P p) : P (settleAll fs p).1 := by
  unfold settleAll
  suffices ∀ (acc : Part × List Report), P acc.1 →
      P (fs.foldl (fun acc f => ((f acc.1).1, acc.2 ++ (f acc.1).2)) acc).1 from this (p, []) hp
  induction fs with
  | nil => intro acc ha; exact ha
  | cons f fs ih =>
    intro acc ha
    exact ih (fun g hg => h g (List.mem_cons_of_mem _ hg)) _ (h f (by simp) _ ha)

theorem settleAll_frame {bs : List Block} (fs : List (Part → Part × List Report))
    (h : ∀ f ∈ fs, ∀ q, Part.changesOnly bs q (f q).1) (p : Part) : Part.changesOnly bs p (settleAll fs p).1 :=
  settleAll_induct (P := fun q => Part.changesOnly bs p q) fs (fun f hf q hq => frame_trans hq (h f hf q)) p (frame_refl p)

theorem expireEntry_frame (t : Nat) (p : Part) : Part.changesOnly [.queue, .mgmt] p (expireEntry t p).1 := by
  unfold expireEntry
  split
  · exact frame_refl p
  · split
    · exact failHard_frame _ _ _
    · exact failHard_frame _ _ _
    · exact failHard_frame _ _ _
    · split
      · exact frame_refl p
      · exact frame_mono (withEntries_frame _ _) (by decide)

theorem queueCycleStart_frame (p : Part) :
    Part.changesOnly [.queue, .mgmt, .draws, .port, .offers, .log, .emg] p (queueCycleStart p) := by
  unfold queueCycleStart
  refine frame_step (settleAll_frame (bs := [.queue, .mgmt]) _ (fun f hf q => ?_) p) (deliverReports_frame _ _)
  simp only [List.mem_map] at hf
  obtain ⟨t, _, rfl⟩ := hf
  exact expireEntry_frame t q

end Sys2Proof.Machine
end

