-- ==== Sys2Proof/Laws/Meter.lean ====
section
/-! SUPPORT. Frames of the operations of the sign driver, the time base, the tariff store, the trip log, the offer table's
closures and the meter. -/

namespace Sys2Proof.Machine

-- Proofs one after another: in parallel, in the package as one text, each would wait for the kernel on a thread of its own.
set_option Elab.async false

/-! ### Sign driver -/

theorem followSign_frame (p : Part) : Part.changesOnly [.sign] p (followSign p) := by
  unfold followSign
  split
  · exact frame_refl p
  · exact setSign_frame _ _

/-- SIGN has followed after `followSign`, whatever it showed before (R187). -/
theorem followSign_follows (p : Part) : signFollows p (followSign p) := by
  unfold followSign
  split
  · rename_i h
    exact ⟨h, fun k => absurd rfl (k.elim (fun k => absurd rfl k) id), fun _ _ => rfl, rfl, rfl, rfl⟩
  · rename_i h
    exact ⟨⟨rfl, rfl⟩, fun _ => ⟨rfl, rfl⟩, fun a b => absurd ⟨a.symm, b.symm⟩ h, rfl, rfl, rfl⟩

theorem requestSignPattern_frame (st : Option MeterState) (t : Nat × Nat) (p : Part) :
    Part.changesOnly [.sign, .port] p (requestSignPattern st t p) := by
  unfold requestSignPattern
  split
  · exact frame_mono (answer_frame _ _ _) (by decide)
  · exact frame_mono (setSign_frame _ _) (by decide)

theorem signWriteCompletes_frame (p : Part) : Part.changesOnly [.sign, .port] p (signWriteCompletes p) := by
  unfold signWriteCompletes
  split
  · exact frame_refl p
  · exact frame_step (frame_trans (setSign_frame _ _) (followSign_frame _)) (answer_frame _ _ _)

theorem lampPhaseEnds_frame (l : Lamp) (p : Part) : Part.changesOnly [.sign] p (lampPhaseEnds l p) := by
  unfold lampPhaseEnds
  split <;> exact setSign_frame _ _

/-! ### Time base -/

theorem onTrip_frame (f : Trip → Trip) (p : Part) : Part.changesOnly [.meter] p (onTrip f p) := setMeter_frame _ _

theorem clockSecond_frame (p : Part) : Part.changesOnly [.clock, .meter] p (clockSecond p) := by
  unfold clockSecond
  simp only
  split
  · exact frame_step (setClock_frame _ _) (onTrip_frame _ _)
  · exact frame_mono (setClock_frame _ _) (by decide)

theorem useTrim_frame (t : Option Int) (p : Part) : Part.changesOnly [.clock] p (useTrim t p) := by
  unfold useTrim
  split
  · exact frame_refl p
  · exact setClock_frame _ _

theorem advanceWindow_frame (a c : Nat) (s : Bool) (p : Part) : Part.changesOnly [.clock] p (advanceWindow a c s p) := by
  unfold advanceWindow
  split
  · exact setClock_frame _ _
  · split
    · split
      · exact frame_trans (useTrim_frame _ _) (setClock_frame _ _)
      · exact setClock_frame _ _
    · exact setClock_frame _ _

theorem takeMarkerTime_frame (m : Marker) (a : Nat) (s : Bool) (p : Part) :
    Part.changesOnly [.clock, .mgmt] p (takeMarkerTime m a s p) := by
  unfold takeMarkerTime
  split
  · exact frame_trans (frame_ite (frame_mono (setFlag_frame _ _) (by decide)) (frame_refl p))
      (frame_mono (frame_trans (setClock_frame _ _) (advanceWindow_frame _ _ _ _)) (by decide))
  · exact frame_refl p

theorem trimWriteCompletes_frame (p : Part) : Part.changesOnly [.clock] p (trimWriteCompletes p) := by
  unfold trimWriteCompletes
  split
  · exact frame_refl p
  · exact setClock_frame _ _

/-! ### Tariff store -/

theorem beginLoad_frame (v c : Nat) (k : Crc) (p : Part) : Part.changesOnly [.tariff, .mgmt] p (beginLoad v c k p) := by
  unfold beginLoad
  split
  · exact frame_refl p
  · split
    · exact frame_mono (setTariff_frame _ _) (by decide)
    · exact frame_mono (setFlag_frame _ _) (by decide)

theorem clearCompletes_frame (p : Part) : Part.changesOnly [.tariff] p (clearCompletes p) := by
  unfold clearCompletes
  split
  · exact setTariff_frame _ _
  · exact frame_refl p

theorem takePage_frame (i : Nat) (b : List Byte) (p : Part) : Part.changesOnly [.tariff, .mgmt] p (takePage i b p) := by
  unfold takePage
  split
  · exact frame_refl p
  · split
    · exact frame_mono (setTariff_frame _ _) (by decide)
    · split
      · exact frame_refl p
      · exact frame_step (setTariff_frame _ _) (setFlag_frame _ _)

theorem receivePage_frame (v i : Nat) (b : List Byte) (p : Part) :
    Part.changesOnly [.tariff, .mgmt] p (receivePage v i b p) := by
  unfold receivePage
  split
  · exact frame_refl p
  · split
    all_goals try exact frame_refl p
    split
    · exact frame_refl p
    · split
      · exact frame_refl p
      · exact takePage_frame _ _ _

theorem checkImage_frame (p : Part) : Part.changesOnly [.tariff, .mgmt] p (checkImage p) := by
  unfold checkImage
  simp only
  split
  · exact frame_mono (setTariff_frame _ _) (by decide)
  · exact frame_step (setTariff_frame _ _) (setFlag_frame _ _)

theorem pageWriteCompletes_frame (p : Part) : Part.changesOnly [.tariff, .mgmt] p (pageWriteCompletes p) := by
  unfold pageWriteCompletes
  split
  · exact frame_refl p
  · split
    · simp only
      split
      · exact frame_step (setTariff_frame _ _) (checkImage_frame _)
      · exact frame_mono (setTariff_frame _ _) (by decide)
    · exact frame_refl p

/-- The store as a restart leaves it before its evaluation, field by field. -/
theorem storeAfterRestart_eq (t : TariffStore) : storeAfterRestart t = restartedStore t := by
  unfold storeAfterRestart restartedStore emptyStaging
  by_cases h : t.staging = .clearing ∨ t.staging = .loading <;> simp [h]

/-- The role record after a swap, field by field. -/
theorem swapRoles_eq (t : TariffStore) : swapRoles t = exchangedStore t := by
  unfold swapRoles exchangedStore
  cases t.loadVersion <;> rfl

/-- An activation becomes due exactly when its time has come. -/
theorem becomesDue_iff (a : PendingActivation) (c : TimeBase) :
    becomesDue a c.state c.tod = true ↔ activationReached a c := by
  unfold becomesDue activationReached
  cases a.time <;> simp [and_assoc]

theorem evaluateActivation_frame (p : Part) : Part.changesOnly [.tariff] p (evaluateActivation p) := by
  unfold evaluateActivation
  split
  · exact frame_refl p
  · simp only
    split
    · exact frame_trans (setTariff_frame _ _) (setTariff_frame _ _)
    · exact setTariff_frame _ _

/-- What an evaluation of the pending activation does: the due mark, and a swap where it is set and no trip is open. -/
theorem evaluateActivation_evaluated (p : Part) : evaluated p.tariff (evaluateActivation p) := by
  have hc : (evaluateActivation p).clock = p.clock := evaluateActivation_frame p .clock (by decide)
  have hm : (evaluateActivation p).meter = p.meter := evaluateActivation_frame p .meter (by decide)
  unfold evaluated
  simp only [hc, hm]
  cases h : p.tariff.activation with
  | none => simp [evaluateActivation, h]
  | some a =>
    refine ⟨a.due || becomesDue a p.clock.state p.clock.tod, by rw [Bool.or_eq_true, becomesDue_iff], ?_⟩
    cases hd : a.due || becomesDue a p.clock.state p.clock.tod <;> cases hs : p.meter.state <;>
      by_cases ha : p.tariff.activity = .swapping <;>
      simp [evaluateActivation, h, hd, hs, ha, tripOpen]

theorem storeSecond_frame (p : Part) : Part.changesOnly [.tariff] p (storeSecond p) :=
  frame_trans (setTariff_frame _ _) (evaluateActivation_frame _)

theorem activate_frame (v : Nat) (m : ActivateMode) (p : Part) : Part.changesOnly [.tariff, .mgmt] p (activate v m p) := by
  unfold activate
  split
  · exact frame_refl p
  · split
    · exact frame_mono (setFlag_frame _ _) (by decide)
    · split
      · exact frame_mono (frame_trans (setTariff_frame _ _) (evaluateActivation_frame _)) (by decide)
      · exact frame_mono (setFlag_frame _ _) (by decide)

theorem abandon_frame (p : Part) : Part.changesOnly [.tariff] p (abandon p) := by
  unfold abandon
  split
  · exact frame_refl p
  · exact setTariff_frame _ _

/-! ### Trip log -/

theorem logClose_frame (r : TripRecord) (p : Part) : Part.changesOnly [.mgmt, .log, .queue, .draws] p (logClose r p) := by
  unfold logClose
  simp only
  have tail : ∀ (q : Part) (l : TripLog) (c : LogChange),
      Part.changesOnly [.log, .queue, .draws] q (deliveryOffer (addLogChange c (q.setLog l))) := fun q l c =>
    frame_step (frame_trans (setLog_frame _ _) (addLogChange_frame _ _)) (deliveryOffer_frame _)
  split
  · exact frame_step (setFlag_frame _ _) (tail _ _ _)
  · exact frame_mono (tail _ _ _) (by decide)

theorem totalsSecond_frame (n : Nat) (p : Part) : Part.changesOnly [.log] p (totalsSecond n p) := setLog_frame _ _

theorem openShift_frame (p : Part) : Part.changesOnly [.log] p (openShift p) :=
  frame_trans (setLog_frame _ _) (addLogChange_frame _ _)

theorem closeShift_frame (p : Part) : Part.changesOnly [.queue, .draws, .log] p (closeShift p) := by
  unfold closeShift
  split
  · exact frame_refl p
  · simp only
    refine frame_trans ?_ (frame_trans (frame_mono (setLog_frame _ _) (by decide))
      (frame_trans (frame_mono (addLogChange_frame _ _) (by decide)) (summaryOffer_frame _)))
    split
    · exact frame_mono (removeEntry_frame _ _ _) (by decide)
    · exact frame_refl p

theorem logUpdateCompletes_frame (p : Part) : Part.changesOnly [.log] p (logUpdateCompletes p) := by
  unfold logUpdateCompletes
  split
  · exact frame_refl p
  · exact setLog_frame _ _

theorem logUpdateBegins_frame (p : Part) : Part.changesOnly [.log] p (logUpdateBegins p) := by
  unfold logUpdateBegins
  split
  · exact frame_refl p
  · split
    · exact logUpdateCompletes_frame p
    · exact setLog_frame _ _

/-! ### Closures of the offer table -/

theorem closeWithBid_frame (r : CloseReason) (o : Offer) (p : Part) :
    Part.changesOnly [.queue, .offers, .port] p (closeWithBid r o p) := by
  unfold closeWithBid
  exact frame_trans (frame_ite (frame_mono (removeEntry_frame _ _ _) (by decide)) (frame_refl p))
    (frame_mono (closeOffer_frame _ _ _ _) (by decide))

theorem cancelOpenOffers_frame (p : Part) : Part.changesOnly [.queue, .offers, .port] p (cancelOpenOffers p) :=
  frame_foldl _ (fun q o => closeWithBid_frame _ o q) _ p

theorem suppressOffers_frame (p : Part) : Part.changesOnly [.offers, .port] p (suppressOffers p) :=
  frame_foldl _ (fun q (o : Offer) => closeOffer_frame o.id .suppressed none q) _ p

/-! ### Meter -/

theorem notifyMeter_frame (p : Part) : Part.changesOnly [.port] p (notifyMeter p) := placeNotice_frame _ _

theorem reportStatus_frame (p : Part) : Part.changesOnly [.queue, .draws, .log] p (reportStatus p) := offerStatus_frame _ _

theorem handOn_frame (p : Part) : Part.changesOnly [.queue, .draws, .log, .port, .sign] p (handOn p) :=
  frame_trans (frame_mono (reportStatus_frame p) (by decide))
    (frame_trans (frame_mono (notifyMeter_frame _) (by decide)) (frame_mono (followSign_frame _) (by decide)))

/-- The parts a change of meter state reaches (R25, R93). -/
theorem setMeterState_frame (st : MeterState) (p : Part) :
    Part.changesOnly [.meter, .queue, .draws, .log, .port, .sign, .ctl] p (setMeterState st p) := by
  unfold setMeterState
  simp only
  refine frame_trans (frame_mono (setMeter_frame _ _) (by decide))
    (frame_trans (frame_ite (frame_mono (wake_frame _) (by decide)) (frame_refl _)) (frame_mono (handOn_frame _) (by decide)))

/-- A change of meter state changes the state alone in the meter. -/
@[simp] theorem setMeterState_meter (st : MeterState) (p : Part) :
    (setMeterState st p).meter = { p.meter with state := st } := by
  unfold setMeterState
  simp only
  rw [(handOn_frame _).meter]
  split
  · rw [(wake_frame _).meter]; rfl
  · rfl

/-- A change of meter state that is not out of OFF_DUTY reaches no acquisition state. -/
theorem setMeterState_frame_awake (st : MeterState) (p : Part) (h : p.meter.state ≠ .offDuty) :
    Part.changesOnly [.meter, .queue, .draws, .log, .port, .sign] p (setMeterState st p) := by
  unfold setMeterState
  simp only [h, false_and, if_false]
  exact frame_trans (frame_mono (setMeter_frame _ _) (by decide)) (frame_mono (handOn_frame _) (by decide))

theorem assignMeter_frame (id : Nat) (p : Part) :
    Part.changesOnly [.meter, .queue, .draws, .log, .port, .sign] p (assignMeter id p) := by
  unfold assignMeter
  split
  · rename_i h
    exact frame_trans (frame_mono (setMeter_frame _ _) (by decide)) (setMeterState_frame_awake _ _ (by simp [h]))
  · exact frame_refl p

theorem jobGone_frame (p : Part) : Part.changesOnly [.meter, .queue, .draws, .log, .port, .sign] p (jobGone p) := by
  unfold jobGone
  split
  · rename_i h
    exact frame_trans (frame_mono (setMeter_frame _ _) (by decide)) (setMeterState_frame_awake _ _ (by simp [h]))
  · exact frame_refl p

theorem openTrip_frame (j : Option JobId) (pr : Price) (p : Part) :
    Part.changesOnly [.meter, .queue, .draws, .log, .port, .sign, .ctl] p (openTrip j pr p) :=
  frame_trans (frame_mono (setMeter_frame _ _) (by decide)) (setMeterState_frame _ _)

theorem removeAwarded_frame (p : Part) : Part.changesOnly [.offers] p (removeAwarded p) := by
  unfold removeAwarded
  split
  · exact frame_refl p
  · exact setOffers_frame _ _

theorem takeHire_frame (p : Part) :
    Part.changesOnly [.meter, .queue, .draws, .log, .port, .sign, .ctl, .offers] p (takeHire p) := by
  unfold takeHire
  split
  · exact frame_trans (frame_mono (cancelOpenOffers_frame _) (by decide))
      (frame_trans (frame_mono (openTrip_frame _ _ _) (by decide)) (frame_mono (answer_frame _ _ _) (by decide)))
  · exact frame_trans (frame_mono (removeAwarded_frame _) (by decide))
      (frame_trans (frame_mono (openTrip_frame _ _ _) (by decide)) (frame_mono (answer_frame _ _ _) (by decide)))
  all_goals exact frame_mono (answer_frame _ _ _) (by decide)

theorem takeOnDuty_frame (p : Part) :
    Part.changesOnly [.meter, .queue, .draws, .log, .port, .sign, .ctl] p (takeOnDuty p) := by
  unfold takeOnDuty
  split
  · split
    · exact frame_mono (answer_frame _ _ _) (by decide)
    · exact frame_trans (frame_mono (openShift_frame _) (by decide))
        (frame_trans (setMeterState_frame _ _) (frame_mono (answer_frame _ _ _) (by decide)))
  · exact frame_mono (answer_frame _ _ _) (by decide)

theorem takeHeld_frame (p : Part) :
    Part.changesOnly [.meter, .queue, .draws, .log, .port, .sign, .ctl, .offers] p (takeHeld p) := by
  unfold takeHeld
  simp only
  split
  · exact frame_refl p
  · exact frame_trans (frame_mono (setMeter_frame _ _) (by decide)) (takeHire_frame _)
  · exact frame_trans (frame_mono (setMeter_frame _ _) (by decide)) (frame_mono (takeOnDuty_frame _) (by decide))

theorem holdOrTake_frame {bs : List Block} (r : HeldRequest) (f : Part → Part) (p : Part)
    (h : ∀ q, Part.changesOnly bs q (f q)) (hm : Block.meter ∈ bs) : Part.changesOnly bs p (holdOrTake r f p) := by
  unfold holdOrTake
  split
  · exact frame_mono (setMeter_frame _ _) (by intro b hb; simp at hb; exact hb ▸ hm)
  · exact h p

theorem swapCompletes_frame (p : Part) :
    Part.changesOnly [.tariff, .meter, .queue, .draws, .log, .port, .sign, .ctl, .offers] p (swapCompletes p) := by
  unfold swapCompletes
  split
  · exact frame_step (setTariff_frame _ _) (takeHeld_frame _)
  · exact frame_refl p

theorem heldRequestTaken_frame (p : Part) :
    Part.changesOnly [.tariff, .meter, .queue, .draws, .log, .port, .sign, .ctl, .offers] p (heldRequestTaken p) :=
  frame_ite (swapCompletes_frame p) (frame_refl p)

theorem takeOffDuty_frame (p : Part) :
    Part.changesOnly [.meter, .queue, .draws, .log, .port, .sign, .offers] p (takeOffDuty p) := by
  unfold takeOffDuty
  split
  · rename_i h
    have hc := (closeShift_frame p).meter
    have ho := (cancelOpenOffers_frame (closeShift p)).meter
    exact frame_trans (frame_mono (closeShift_frame _) (by decide)) (frame_trans (frame_mono (cancelOpenOffers_frame _) (by decide))
      (frame_trans (frame_mono (setMeterState_frame_awake _ _ (by rw [ho, hc, h]; decide)) (by decide))
        (frame_mono (answer_frame _ _ _) (by decide))))
  · exact frame_mono (answer_frame _ _ _) (by decide)

theorem takeStop_frame (p : Part) : Part.changesOnly [.meter, .queue, .draws, .log, .port, .sign] p (takeStop p) := by
  unfold takeStop
  split
  · rename_i h
    exact frame_trans (frame_mono (setMeter_frame _ _) (by decide))
      (frame_trans (setMeterState_frame_awake _ _ (by simp [h])) (frame_mono (answer_frame _ _ _) (by decide)))
  · rename_i h
    exact frame_trans (frame_mono (onTrip_frame _ _) (by decide))
      (frame_trans (setMeterState_frame_awake _ _ (by simp [onTrip, h])) (frame_mono (answer_frame _ _ _) (by decide)))
  all_goals exact frame_mono (answer_frame _ _ _) (by decide)

theorem takeResume_frame (p : Part) : Part.changesOnly [.meter, .queue, .draws, .log, .port, .sign] p (takeResume p) := by
  unfold takeResume
  split
  · rename_i h
    exact frame_trans (frame_mono (frame_trans (onTrip_frame _ _) (setMeter_frame _ _)) (by decide))
      (frame_trans (setMeterState_frame_awake _ _ (by simp [onTrip, h])) (frame_mono (answer_frame _ _ _) (by decide)))
  · exact frame_mono (answer_frame _ _ _) (by decide)

theorem takeClose_frame (p : Part) :
    Part.changesOnly [.meter, .queue, .draws, .log, .port, .sign, .mgmt, .tariff] p (takeClose p) := by
  unfold takeClose
  split
  · rename_i h
    split
    · exact frame_mono (answer_frame _ _ _) (by decide)
    · rename_i t _
      have hm := (logClose_frame (closingRecord t p) p).meter
      exact frame_trans (frame_mono (logClose_frame _ _) (by decide)) (frame_trans (frame_mono (setMeter_frame _ _) (by decide))
        (frame_trans (frame_mono (setMeterState_frame_awake _ _ (by simp [hm, h])) (by decide))
          (frame_trans (frame_mono (evaluateActivation_frame _) (by decide)) (frame_mono (answer_frame _ _ _) (by decide)))))
  all_goals exact frame_mono (answer_frame _ _ _) (by decide)

theorem judgeExtra_frame (n : Nat) (t : Trip) (p : Part) : Part.changesOnly [.meter, .port] p (judgeExtra n t p) := by
  unfold judgeExtra
  split
  · exact frame_mono (answer_frame _ _ _) (by decide)
  · split
    · exact frame_mono (answer_frame _ _ _) (by decide)
    · exact frame_trans (frame_mono (setMeter_frame _ _) (by decide))
        (frame_mono (frame_trans (notifyMeter_frame _) (answer_frame _ _ _)) (by decide))

theorem takeExtra_frame (n : Nat) (p : Part) : Part.changesOnly [.meter, .port] p (takeExtra n p) := by
  unfold takeExtra
  split
  · split
    · exact frame_mono (answer_frame _ _ _) (by decide)
    · exact judgeExtra_frame _ _ _
  · exact frame_mono (answer_frame _ _ _) (by decide)

theorem takeJobCancel_frame (p : Part) :
    Part.changesOnly [.meter, .queue, .draws, .log, .port, .sign, .offers] p (takeJobCancel p) := by
  unfold takeJobCancel
  split
  · refine frame_trans ?_ (frame_trans (frame_mono (jobGone_frame _) (by decide)) (frame_mono (answer_frame _ _ _) (by decide)))
    split
    · exact frame_mono (closeOffer_frame _ _ _ _) (by decide)
    · exact frame_refl p
  · exact frame_mono (answer_frame _ _ _) (by decide)

theorem takeCalibration_frame (k : Nat) (p : Part) : Part.changesOnly [.meter, .port] p (takeCalibration k p) := by
  unfold takeCalibration
  repeat' split
  all_goals first
    | exact frame_mono (answer_frame _ _ _) (by decide)
    | exact frame_mono (setMeter_frame _ _) (by decide)

theorem calibrationCompletes_frame (p : Part) : Part.changesOnly [.meter, .log, .port] p (calibrationCompletes p) := by
  unfold calibrationCompletes
  split
  · exact frame_refl p
  · exact frame_step (frame_step (ds := [.meter, .log]) (setMeter_frame _ _) (setLog_frame _ _)) (answer_frame _ _ _)

theorem countPulse_frame (p : Part) : Part.changesOnly [.meter] p (countPulse p) := setMeter_frame _ _

end Sys2Proof.Machine
end

