-- ==== Sys2Proof/Laws/Commands.lean ====
section
/-! SUPPORT. Frames of the operations of the zone resolver, the message store, the meter second, the offer table and the
emergency unit. -/

namespace Sys2Proof.Machine

-- Proofs one after another: in parallel, in the package as one text, each would wait for the kernel on a thread of its own.
set_option Elab.async false

/-! ### Zone resolver -/

theorem evaluateArea_frame (p : Part) : Part.changesOnly [.zones] p (evaluateArea p) := setZones_frame _ _

theorem recordFix_frame (f : Fix) (p : Part) : Part.changesOnly [.zones] p (recordFix f p) := by
  unfold recordFix
  simp only
  split
  · exact frame_trans (setZones_frame _ _) (evaluateArea_frame _)
  · exact setZones_frame _ _

theorem changeZone_frame (z : Nat) (p : Part) : Part.changesOnly [.zones, .queue, .draws, .log] p (changeZone z p) := by
  unfold changeZone
  simp only
  split
  · exact frame_trans (frame_mono (setZones_frame _ _) (by decide))
      (frame_trans (frame_mono (reportStatus_frame _) (by decide)) (frame_mono (evaluateArea_frame _) (by decide)))
  · exact frame_mono (frame_trans (setZones_frame _ _) (evaluateArea_frame _)) (by decide)

theorem debounce_frame (z : Nat) (p : Part) : Part.changesOnly [.zones, .queue, .draws, .log] p (debounce z p) := by
  unfold debounce
  split
  · split
    · exact frame_refl p
    · exact changeZone_frame _ _
  · exact frame_mono (setZones_frame _ _) (by decide)

theorem windowFix_frame (x y : Nat) (p : Part) : Part.changesOnly [.meter] p (windowFix x y p) := by
  unfold windowFix
  split
  · exact setMeter_frame _ _
  · exact frame_refl p

theorem usableFix_frame (f : Fix) (p : Part) : Part.changesOnly [.zones, .queue, .draws, .log, .meter] p (usableFix f p) := by
  unfold usableFix
  simp only
  have h : Part.changesOnly [.zones, .queue, .draws, .log, .meter] p
      (debounce (resolve (recordFix f p).zones.table f.x f.y) (recordFix f p)) :=
    frame_trans (frame_mono (recordFix_frame _ _) (by decide)) (frame_mono (debounce_frame _ _) (by decide))
  split
  · exact frame_trans h (frame_mono (windowFix_frame _ _ _) (by decide))
  · exact h

theorem takeFix_frame (f : Fix) (p : Part) :
    Part.changesOnly [.zones, .queue, .draws, .log, .meter, .port] p (takeFix f p) := by
  unfold takeFix
  split
  · exact frame_mono (answer_frame _ _ _) (by decide)
  · exact frame_step (usableFix_frame _ _) (answer_frame _ _ _)
  · exact frame_step (usableFix_frame _ _) (answer_frame _ _ _)
  · exact frame_mono (answer_frame _ _ _) (by decide)

theorem resolverSecond_frame (p : Part) : Part.changesOnly [.zones] p (resolverSecond p) := by
  unfold resolverSecond
  simp only
  repeat' split
  all_goals exact setZones_frame _ _

theorem takeZones_frame (i : Nat) (es : List ZoneEntry) (p : Part) : Part.changesOnly [.zones] p (takeZones i es p) := by
  unfold takeZones
  simp only
  split
  · exact frame_refl p
  · split
    · exact setZones_frame _ _
    · exact frame_trans (setZones_frame _ _) (evaluateArea_frame _)

/-! ### Message store -/

theorem fileMessage_frame (m : Message) (p : Part) : Part.changesOnly [.msgs, .port, .mgmt] p (fileMessage m p) := by
  unfold fileMessage
  simp only
  split
  · exact frame_mono (setFlag_frame _ _) (by decide)
  · split
    · exact frame_mono (setMsgs_frame _ _) (by decide)
    · exact frame_step (setMsgs_frame _ _) (placeNotice_frame _ _)

theorem takeText_frame (h : AirHeader) (f : TextFrame) (p : Part) :
    Part.changesOnly [.msgs, .port, .mgmt] p (takeText h f p) := by
  unfold takeText
  split
  · split
    · exact frame_refl p
    · split
      · exact frame_refl p
      · exact fileMessage_frame _ _
  · exact frame_refl p

theorem showHeld_frame (p : Part) : Part.changesOnly [.msgs, .port] p (showHeld p) :=
  frame_step (setMsgs_frame _ _)
    (frame_foldl (bs := [.port]) _ (fun q (m : Message) => placeNotice_frame (.message { m with held := false }) q) _ _)

theorem takeMotion_frame (m : Motion) (p : Part) : Part.changesOnly [.msgs, .port] p (takeMotion m p) := by
  unfold takeMotion
  simp only
  split
  · exact frame_mono (setMsgs_frame _ _) (by decide)
  · exact frame_trans (frame_mono (setMsgs_frame _ _) (by decide)) (showHeld_frame _)

theorem changeMessage_frame (id : Nat) (f : Message → Message) (p : Part) :
    Part.changesOnly [.msgs] p (changeMessage id f p) := setMsgs_frame _ _

theorem takeRead_frame (id : Nat) (p : Part) : Part.changesOnly [.msgs, .queue, .draws, .log, .port] p (takeRead id p) := by
  unfold takeRead
  split
  · exact frame_mono (answer_frame _ _ _) (by decide)
  · split
    · simp only
      refine frame_trans ?_ (frame_mono (answer_frame _ _ _) (by decide))
      split
      · exact frame_trans (frame_mono (changeMessage_frame _ _ _) (by decide))
          (frame_mono (offerEntry_routine_frame _ _ _ rfl) (by decide))
      · exact frame_mono (changeMessage_frame _ _ _) (by decide)
    · exact frame_mono (answer_frame _ _ _) (by decide)

theorem takeReply_frame (a : Nat × Answer) (p : Part) :
    Part.changesOnly [.msgs, .queue, .draws, .log, .port] p (takeReply a p) := by
  unfold takeReply
  split
  · exact frame_mono (answer_frame _ _ _) (by decide)
  · rename_i m _
    split
    · simp only
      have ha : Part.changesOnly [.msgs, .queue, .draws, .log, .port] p
          (admitEntry (.messageReply a.1 m.form a.2) (some a.1) (expiryOf (.messageReply a.1 m.form a.2) p)
            (changeMessage a.1 (fun m => { m with state := .replied }) p)).1 :=
        frame_trans (frame_mono (changeMessage_frame _ _ _) (by decide))
          (frame_mono (admitEntry_routine_frame _ _ _ _ rfl) (by decide))
      split
      · exact frame_trans ha (frame_mono (answer_frame _ _ _) (by decide))
      · exact frame_trans ha (frame_mono (frame_trans (placeNotice_frame _ _) (answer_frame _ _ _)) (by decide))
    · exact frame_mono (answer_frame _ _ _) (by decide)

theorem takeCanned_frame (i : Nat) (es : List Text) (p : Part) : Part.changesOnly [.msgs] p (takeCanned i es p) := by
  unfold takeCanned
  split
  · exact frame_refl p
  · exact setMsgs_frame _ _

theorem sendOut_frame (c : Option Nat) (t : Text) (p : Part) :
    Part.changesOnly [.msgs, .queue, .draws, .log, .port] p (sendOut c t p) := by
  unfold sendOut
  simp only
  have ha : ∀ (b : Body) (s x : Option Nat) (ms : MessageStore), classOf (kindOf b) = .routine →
      Part.changesOnly [.msgs, .queue, .draws, .log, .port] p (admitEntry b s x (p.setMsgs ms)).1 := fun b s x ms hb =>
    frame_trans (frame_mono (setMsgs_frame _ _) (by decide)) (frame_mono (admitEntry_routine_frame _ _ _ _ hb) (by decide))
  split
  · exact frame_trans (ha _ _ _ _ rfl) (frame_mono (answer_frame _ _ _) (by decide))
  · exact frame_trans (ha _ _ _ _ rfl) (frame_mono (frame_trans (placeNotice_frame _ _) (answer_frame _ _ _)) (by decide))

theorem takeSendCanned_frame (i : Nat) (p : Part) :
    Part.changesOnly [.msgs, .queue, .draws, .log, .port] p (takeSendCanned i p) := by
  unfold takeSendCanned
  split
  · exact frame_mono (answer_frame _ _ _) (by decide)
  · split
    · exact frame_mono (answer_frame _ _ _) (by decide)
    · exact sendOut_frame _ _ _

theorem takeSendText_frame (t : Text) (p : Part) :
    Part.changesOnly [.msgs, .queue, .draws, .log, .port] p (takeSendText t p) := by
  unfold takeSendText
  split
  · exact frame_mono (answer_frame _ _ _) (by decide)
  · split
    · exact frame_mono (answer_frame _ _ _) (by decide)
    · exact sendOut_frame _ _ _

/-! ### Meter second -/

theorem takePulses_frame (p : Part) : Part.changesOnly [.meter, .mgmt] p (takePulses p) := by
  unfold takePulses
  simp only
  split
  · exact frame_step (frame_trans (setMeter_frame _ _) (onTrip_frame _ _)) (setFlag_frame _ _)
  · exact frame_mono (setMeter_frame _ _) (by decide)

theorem followMotion_frame (n : Nat) (p : Part) : Part.changesOnly [.meter, .msgs, .port] p (followMotion n p) := by
  unfold followMotion
  simp only
  split
  · exact frame_mono (setMeter_frame _ _) (by decide)
  · exact frame_step (setMeter_frame _ _) (takeMotion_frame _ _)

theorem charge_frame (n : Nat) (p : Part) : Part.changesOnly [.meter, .port] p (charge n p) := by
  unfold charge
  split
  · split
    · exact frame_refl p
    · simp only
      split
      · exact frame_mono (setMeter_frame _ _) (by decide)
      · exact frame_step (setMeter_frame _ _) (notifyMeter_frame _)
  · exact frame_refl p

theorem watchDistance_frame (n : Nat) (p : Part) : Part.changesOnly [.meter, .mgmt] p (watchDistance n p) := by
  unfold watchDistance
  split
  · simp only
    split
    · split
      · exact frame_step (frame_trans (setMeter_frame _ _) (onTrip_frame _ _)) (setFlag_frame _ _)
      · exact frame_mono (setMeter_frame _ _) (by decide)
    · exact frame_mono (setMeter_frame _ _) (by decide)
  · exact frame_refl p

theorem meterHandling_frame (p : Part) : Part.changesOnly [.meter, .mgmt, .msgs, .port, .log] p (meterHandling p) := by
  unfold meterHandling
  exact frame_trans (frame_mono (takePulses_frame _) (by decide)) (frame_trans (frame_mono (followMotion_frame _ _) (by decide))
    (frame_trans (frame_mono (charge_frame _ _) (by decide)) (frame_trans (frame_mono (watchDistance_frame _ _) (by decide))
      (frame_mono (totalsSecond_frame _ _) (by decide)))))

/-- The parts a meter second reaches (R142). -/
theorem meterSecond_frame (p : Part) :
    Part.changesOnly [.clock, .meter, .mgmt, .msgs, .port, .log, .zones, .tariff] p (meterSecond p) :=
  frame_trans (frame_mono (clockSecond_frame _) (by decide)) (frame_trans (frame_mono (meterHandling_frame _) (by decide))
    (frame_trans (frame_mono (resolverSecond_frame _) (by decide)) (frame_mono (storeSecond_frame _) (by decide))))

theorem secondWhen_frame (c : Part → Bool) (p : Part) :
    Part.changesOnly [.clock, .meter, .mgmt, .msgs, .port, .log, .zones, .tariff] p (secondWhen c p) :=
  frame_ite (meterSecond_frame p) (frame_refl p)

/-! ### Offer table -/

theorem repeatOffer_frame (o : Offer) (d : Nat) (p : Part) : Part.changesOnly [.offers, .port] p (repeatOffer o d p) := by
  unfold repeatOffer
  simp only
  split
  · split
    · exact frame_step (setOffers_frame _ _) (placeNotice_frame _ _)
    · exact frame_mono (setOffers_frame _ _) (by decide)
  · exact frame_refl p

theorem presentOffer_frame (f : OfferFrame) (p : Part) : Part.changesOnly [.offers, .port, .mgmt] p (presentOffer f p) := by
  unfold presentOffer
  split
  · exact frame_mono (setFlag_frame _ _) (by decide)
  · exact frame_step (setOffers_frame _ _) (placeNotice_frame _ _)

theorem takeOffer_frame (h : AirHeader) (f : OfferFrame) (p : Part) :
    Part.changesOnly [.offers, .port, .mgmt] p (takeOffer h f p) := by
  unfold takeOffer
  split
  · split
    · exact frame_mono (repeatOffer_frame _ _ _) (by decide)
    · exact frame_ite (presentOffer_frame _ _) (frame_refl p)
  · exact frame_refl p

theorem placeBid_frame (o : Offer) (p : Part) :
    Part.changesOnly [.queue, .draws, .ctl, .port, .log, .offers] p (placeBid o p) := by
  unfold placeBid
  simp only
  have ha := frame_mono (cs := [.queue, .draws, .ctl, .port, .log, .offers])
    (admitEntry_urgent_frame (bidBody o.id p) (some o.id) (some o.deadline) p rfl) (by decide)
  split
  · exact frame_trans ha (frame_trans (frame_mono (moveOffer_frame _ _ _ _) (by decide)) (frame_mono (answer_frame _ _ _) (by decide)))
  · exact frame_trans ha (frame_mono (answer_frame _ _ _) (by decide))

theorem takeAccept_frame (id : Nat) (p : Part) :
    Part.changesOnly [.queue, .draws, .ctl, .port, .log, .offers] p (takeAccept id p) := by
  unfold takeAccept
  split
  · exact frame_mono (answer_frame _ _ _) (by decide)
  · split
    · exact frame_mono (answer_frame _ _ _) (by decide)
    · split
      · exact frame_trans (frame_mono (closeOffer_frame _ _ _ _) (by decide)) (frame_mono (answer_frame _ _ _) (by decide))
      · split
        · exact frame_mono (answer_frame _ _ _) (by decide)
        · split
          · exact placeBid_frame _ _
          · exact frame_mono (answer_frame _ _ _) (by decide)

theorem takeDecline_frame (id : Nat) (p : Part) : Part.changesOnly [.offers, .port] p (takeDecline id p) := by
  unfold takeDecline
  split
  · exact frame_mono (answer_frame _ _ _) (by decide)
  · split
    · exact frame_trans (closeOffer_frame _ _ _ _) (frame_mono (answer_frame _ _ _) (by decide))
    all_goals exact frame_mono (answer_frame _ _ _) (by decide)

theorem expireAccepted_frame (id : Nat) (p : Part) : Part.changesOnly [.queue, .offers, .port] p (expireAccepted id p) := by
  unfold expireAccepted
  split
  · exact frame_mono (closeOffer_frame _ _ _ _) (by decide)
  · split
    · exact frame_refl p
    · exact frame_step (removeEntry_frame _ _ _) (closeOffer_frame _ _ _ _)

theorem deadlineEntry_frame (o : Offer) (p : Part) : Part.changesOnly [.queue, .offers, .port] p (deadlineEntry o p) := by
  unfold deadlineEntry
  split
  · split
    · exact frame_mono (closeOffer_frame _ _ _ _) (by decide)
    · exact expireAccepted_frame _ _
    all_goals exact frame_refl p
  · exact frame_refl p

theorem deadlineCycleStart_frame (p : Part) : Part.changesOnly [.queue, .offers, .port] p (deadlineCycleStart p) :=
  frame_foldl _ (fun q o => deadlineEntry_frame o q) _ p

theorem awardWaitEntry_frame (o : Offer) (p : Part) : Part.changesOnly [.offers, .port] p (awardWaitEntry o p) :=
  frame_ite (closeOffer_frame _ _ _ _) (frame_refl p)

theorem awardWaitCycleStart_frame (p : Part) : Part.changesOnly [.offers, .port] p (awardWaitCycleStart p) :=
  frame_foldl _ (fun q o => awardWaitEntry_frame o q) _ p

theorem takeDeadlines_frame (p : Part) : Part.changesOnly [.sig, .queue, .offers, .port] p (takeDeadlines p) := by
  unfold takeDeadlines
  split
  · exact frame_step (setSig_frame _ _) (deadlineCycleStart_frame _)
  · exact frame_refl p

theorem takeAwardWaits_frame (p : Part) : Part.changesOnly [.sig, .offers, .port] p (takeAwardWaits p) := by
  unfold takeAwardWaits
  split
  · exact frame_step (setSig_frame _ _) (awardWaitCycleStart_frame _)
  · exact frame_refl p

theorem withdrawOffer_frame (o : Offer) (r : WithdrawReason) (p : Part) :
    Part.changesOnly [.offers, .meter, .queue, .draws, .log, .port, .sign] p (withdrawOffer o r p) := by
  unfold withdrawOffer
  split
  · exact frame_mono (closeOffer_frame _ _ _ _) (by decide)
  · exact frame_step (removeEntry_frame _ _ _) (closeOffer_frame _ _ _ _)
  · exact frame_mono (closeOffer_frame _ _ _ _) (by decide)
  · exact frame_step (closeOffer_frame _ _ _ _) (jobGone_frame _)
  · exact frame_refl p

theorem takeWithdraw_frame (id : Nat) (r : Option WithdrawReason) (p : Part) :
    Part.changesOnly [.offers, .meter, .queue, .draws, .log, .port, .sign] p (takeWithdraw id r p) := by
  unfold takeWithdraw
  split
  · exact frame_refl p
  · split
    · exact frame_refl p
    · exact withdrawOffer_frame _ _ _

theorem closeOthers_frame (id : Nat) (p : Part) : Part.changesOnly [.queue, .offers, .port] p (closeOthers id p) :=
  frame_foldl _ (fun q o => closeWithBid_frame _ o q) _ p

theorem makeAwarded_frame (f : AwardFrame) (pr : Price) (p : Part) :
    Part.changesOnly [.queue, .offers, .port] p (makeAwarded f pr p) := by
  unfold makeAwarded
  split
  · simp only
    split
    · exact frame_trans (frame_mono (removeEntry_frame _ _ _) (by decide))
        (frame_mono (frame_step (ds := [.offers, .port]) (setOffers_frame _ _) (placeNotice_frame _ _)) (by decide))
    · exact frame_step (setOffers_frame _ _) (placeNotice_frame _ _)
  · simp only
    split
    · exact frame_refl p
    · exact frame_step (setOffers_frame _ _) (placeNotice_frame _ _)

theorem awardTaken_frame (f : AwardFrame) (pr : Price) (p : Part) :
    Part.changesOnly [.offers, .meter, .queue, .draws, .log, .port, .sign] p (awardTaken f pr p) :=
  frame_trans (frame_mono (frame_trans (closeOthers_frame _ _) (makeAwarded_frame _ _ _)) (by decide))
    (frame_mono (assignMeter_frame _ _) (by decide))

theorem recordLoss_frame (f : AwardFrame) (pr : Price) (p : Part) :
    Part.changesOnly [.offers, .port] p (recordLoss f pr p) := by
  unfold recordLoss
  split
  · exact frame_step (setOffers_frame _ _) (placeNotice_frame _ _)
  · simp only
    split
    · exact frame_refl p
    · exact frame_step (setOffers_frame _ _) (placeNotice_frame _ _)

theorem awardRefused_frame (f : AwardFrame) (pr : Price) (p : Part) :
    Part.changesOnly [.queue, .draws, .ctl, .port, .log, .offers] p (awardRefused f pr p) :=
  frame_trans (frame_mono (offerEntry_urgent_frame _ _ _ rfl) (by decide)) (frame_mono (recordLoss_frame _ _ _) (by decide))

theorem takeAward_frame (f : AwardFrame) (p : Part) :
    Part.changesOnly [.offers, .meter, .queue, .draws, .log, .port, .sign, .ctl] p (takeAward f p) := by
  unfold takeAward
  split
  · exact frame_refl p
  · split
    · exact frame_mono (awardTaken_frame _ _ _) (by decide)
    · split
      · exact frame_refl p
      · exact frame_mono (awardRefused_frame _ _ _) (by decide)

/-! ### Emergency unit -/

theorem offerFrame_frame (p : Part) :
    Part.changesOnly [.emg, .queue, .draws, .ctl, .port, .offers, .log] p (offerFrame p) :=
  frame_step (setEmg_frame _ _) (offerEmergency_frame _ _)

theorem press_frame (p : Part) : Part.changesOnly [.emg, .ctl, .port] p (press p) := by
  unfold press
  split
  · exact frame_step (setEmg_frame _ _) (wake_frame _)
  · exact frame_mono (setEmg_frame _ _) (by decide)
  · exact frame_mono (setEmg_frame _ _) (by decide)
  · exact frame_refl p
  · exact frame_refl p

theorem lineDown_frame (p : Part) : Part.changesOnly [.lines, .emg, .ctl, .port] p (lineDown p) := by
  unfold lineDown
  split
  · exact frame_refl p
  · exact frame_step (setLines_frame _ _) (press_frame _)

theorem releaseArming_frame (p : Part) :
    Part.changesOnly [.emg, .queue, .draws, .ctl, .port, .offers, .log] p (releaseArming p) := by
  unfold releaseArming
  simp only
  split
  · exact frame_trans (frame_mono (setEmg_frame _ _) (by decide)) (offerFrame_frame _)
  · exact frame_mono (setEmg_frame _ _) (by decide)

theorem lineUp_frame (p : Part) :
    Part.changesOnly [.lines, .emg, .queue, .draws, .ctl, .port, .offers, .log] p (lineUp p) := by
  unfold lineUp
  split
  · exact frame_step (setLines_frame _ _) (frame_ite (releaseArming_frame _) (frame_refl _))
  · exact frame_refl p

theorem enterAlert_frame (p : Part) :
    Part.changesOnly [.emg, .queue, .draws, .ctl, .port, .offers, .log] p (enterAlert p) :=
  frame_trans (frame_mono (setEmg_frame _ _) (by decide)) (frame_trans (offerFrame_frame _)
    (frame_trans (frame_mono (suppressOffers_frame _) (by decide)) (frame_mono (wake_frame _) (by decide))))

theorem holdExpires_frame (p : Part) :
    Part.changesOnly [.emg, .queue, .draws, .ctl, .port, .offers, .log] p (holdExpires p) :=
  frame_ite (enterAlert_frame p) (frame_refl p)

theorem takeFrameDue_frame (p : Part) :
    Part.changesOnly [.sig, .emg, .queue, .draws, .ctl, .port, .offers, .log] p (takeFrameDue p) := by
  unfold takeFrameDue
  split
  · exact frame_step (setSig_frame _ _) (frame_ite (offerFrame_frame _) (frame_refl _))
  · exact frame_refl p

theorem takeEmergencyAck_frame (h : AirHeader) (n : Nat) (p : Part) :
    Part.changesOnly [.emg] p (takeEmergencyAck h n p) := by
  unfold takeEmergencyAck
  split
  · exact setEmg_frame _ _
  · exact frame_refl p

theorem takeEmergencyCancel_frame (p : Part) :
    Part.changesOnly [.emg, .queue, .draws, .ctl, .port, .offers, .log] p (takeEmergencyCancel p) := by
  have hc : Part.changesOnly [.emg, .queue, .draws, .ctl, .port, .offers, .log] p (cancelAlert p) :=
    frame_trans (frame_mono (setEmg_frame _ _) (by decide)) (frame_trans (offerFrame_frame _)
      (frame_mono (answer_frame _ _ _) (by decide)))
  unfold takeEmergencyCancel
  split
  · exact hc
  · exact hc
  all_goals exact frame_mono (answer_frame _ _ _) (by decide)

theorem lampsOn_frame (p : Part) : Part.changesOnly [.emg, .sign] p (lampsOn p) :=
  frame_trans (frame_mono (setEmg_frame _ _) (by decide))
    (frame_mono (frame_trans (followSign_frame _) (setSign_frame _ _)) (by decide))

theorem lampsOff_frame (p : Part) : Part.changesOnly [.emg, .sign] p (lampsOff p) := by
  unfold lampsOff
  split
  · exact frame_trans (frame_mono (setEmg_frame _ _) (by decide))
      (frame_mono (frame_trans (followSign_frame _) (setSign_frame _ _)) (by decide))
  · exact frame_refl p

theorem takeOpenAlert_frame (h : AirHeader) (n : Nat) (p : Part) :
    Part.changesOnly [.emg, .sign] p (takeOpenAlert h n p) := frame_ite (lampsOn_frame p) (frame_refl p)

theorem takeEmergencyClear_frame (h : AirHeader) (n : Nat) (p : Part) :
    Part.changesOnly [.emg, .sign] p (takeEmergencyClear h n p) :=
  frame_ite (frame_trans (frame_mono (setEmg_frame _ _) (by decide)) (lampsOff_frame _)) (frame_refl p)

end Sys2Proof.Machine
end

