-- ==== Sys2Proof/Laws/Channel.lean ====
section
/-! SUPPORT. Frames of the operations of the channel controller, the cab link port, the management unit and the restarts. -/

namespace Sys2Proof.Machine

-- Proofs one after another: in parallel, in the package as one text, each would wait for the kernel on a thread of its own.
set_option Elab.async false

/-! ### Cycle starts and timing -/

theorem takeQueueStart_frame (p : Part) :
    Part.changesOnly [.sig, .queue, .mgmt, .draws, .port, .offers, .log, .emg] p (takeQueueStart p) := by
  unfold takeQueueStart
  split
  · exact frame_step (setSig_frame _ _) (queueCycleStart_frame _)
  · exact frame_refl p

theorem takeSignals_frame (p : Part) :
    Part.changesOnly [.sig, .queue, .mgmt, .draws, .port, .offers, .log, .emg, .ctl] p (takeSignals p) :=
  frame_trans (frame_mono (takeQueueStart_frame _) (by decide)) (frame_trans (frame_mono (takeDeadlines_frame _) (by decide))
    (frame_trans (frame_mono (takeAwardWaits_frame _) (by decide)) (frame_mono (takeFrameDue_frame _) (by decide))))

/-- With no cycle start waiting, nothing is taken. -/
theorem takeSignals_none (p : Part) (h : p.sig = ⟨false, false, false, false⟩) : takeSignals p = p := by
  have h1 : takeQueueStart p = p := by simp [takeQueueStart, h]
  have h2 : takeDeadlines p = p := by simp [takeDeadlines, h]
  have h3 : takeAwardWaits p = p := by simp [takeAwardWaits, h]
  have h4 : takeFrameDue p = p := by simp [takeFrameDue, h]
  simp [takeSignals, h1, h2, h3, h4]

theorem startCycle_frame (c : Nat) (p : Part) :
    Part.changesOnly [.sig, .queue, .mgmt, .draws, .port, .offers, .log, .emg, .ctl] p (startCycle c p) := by
  unfold startCycle
  split
  · exact frame_refl p
  · exact frame_trans (takeSignals_frame p)
      (frame_mono (frame_step (ds := [.ctl, .sig]) (setCtl_frame _ _) (setSig_frame _ _)) (by decide))

theorem reachTime_frame (t : Nat) (p : Part) : Part.changesOnly [.clock] p (reachTime t p) := setClock_frame _ _

theorem setTiming_frame (a : Nat) (p : Part) : Part.changesOnly [.ctl, .clock] p (setTiming a p) :=
  frame_step (setCtl_frame _ _) (reachTime_frame _ _)

theorem takeTiming_frame (m : Marker) (a : Nat) (p : Part) :
    Part.changesOnly [.sig, .queue, .mgmt, .draws, .port, .offers, .log, .emg, .ctl, .clock] p (takeTiming m a p) :=
  frame_step (startCycle_frame _ _) (setTiming_frame _ _)

theorem endCycleStart_frame (c : Bool) (p : Part) : Part.changesOnly [.queue, .draws, .log] p (endCycleStart c p) :=
  frame_ite (logCycleStart_frame p) (frame_refl p)

/-! ### Settling -/

theorem settleSent_frame (m : Marker) (t : Nat) (p : Part) :
    Part.changesOnly [.queue, .draws, .mgmt, .ctl, .port] p (settleSent m t p).1 := by
  unfold settleSent
  split
  · exact frame_refl p
  · split
    · split
      · exact frame_mono (settleAck_frame _ _) (by decide)
      · exact frame_mono (settleFail_frame _ _ _) (by decide)
    · exact frame_refl p

theorem waitForGrant_frame (t : Nat) (e : Entry) (p : Part) :
    Part.changesOnly [.queue, .draws, .mgmt] p (waitForGrant t e p).1 := by
  unfold waitForGrant
  split
  · exact settleFail_frame _ _ _
  · exact frame_mono (withEntries_frame _ _) (by decide)

theorem settleGrant_frame (m : Marker) (t : Nat) (p : Part) :
    Part.changesOnly [.queue, .draws, .mgmt, .ctl] p (settleGrant m t p).1 := by
  unfold settleGrant
  split
  · exact frame_refl p
  · split
    · split
      · exact frame_mono (frame_step (ds := [.queue, .ctl]) (withEntries_frame _ _) (setCtl_frame _ _)) (by decide)
      · exact frame_mono (waitForGrant_frame _ _ _) (by decide)
    · exact frame_refl p

theorem clearSchedule_frame (p : Part) : Part.changesOnly [.ctl] p (clearSchedule p) := setCtl_frame _ _

theorem settleMarker_frame (m : Marker) (p : Part) :
    Part.changesOnly [.queue, .draws, .mgmt, .ctl, .port] p (settleMarker m p).1 := by
  unfold settleMarker
  simp only
  refine frame_trans (frame_mono (clearSchedule_frame p) (by decide)) (frame_trans (settleAll_frame _ ?_ _)
    (settleAll_frame _ ?_ _))
  · intro f hf q
    simp only [List.mem_map] at hf
    obtain ⟨t, _, rfl⟩ := hf
    exact settleSent_frame m t q
  · intro f hf q
    simp only [List.mem_map] at hf
    obtain ⟨t, _, rfl⟩ := hf
    exact frame_mono (settleGrant_frame m t q) (by decide)

theorem takePages_frame (m : Marker) (p : Part) : Part.changesOnly [.ctl, .port] p (takePages m p) := by
  unfold takePages
  split
  · exact frame_step (setCtl_frame _ _) (wake_frame _)
  · exact frame_refl p

theorem park_frame (p : Part) : Part.changesOnly [.ctl, .port] p (park p) :=
  frame_step (frame_trans (setCtl_frame _ _) (clearSchedule_frame _)) (setAcq_frame _ _)

theorem buildSchedule_frame (p : Part) : Part.changesOnly [.queue, .ctl] p (buildSchedule p) := by
  unfold buildSchedule
  exact frame_step (withEntries_frame _ _) (setCtl_frame _ _)

theorem openCycle_frame (m : Marker) (p : Part) : Part.changesOnly [.queue, .ctl, .port] p (openCycle m p) := by
  unfold openCycle
  simp only
  split
  · exact frame_mono (frame_trans (takePages_frame _ _) (park_frame _)) (by decide)
  · exact frame_trans (frame_mono (takePages_frame _ _) (by decide))
      (frame_mono (frame_step (ds := [.queue, .ctl]) (setCtl_frame _ _) (buildSchedule_frame _)) (by decide))

theorem lockedMarker_frame (m : Marker) (p : Part) :
    Part.changesOnly [.queue, .draws, .mgmt, .ctl, .port, .offers, .log, .emg] p (lockedMarker m p) :=
  frame_trans (frame_mono (settleMarker_frame _ _) (by decide)) (frame_trans (frame_mono (openCycle_frame _ _) (by decide))
    (frame_mono (deliverReports_frame _ _) (by decide)))

theorem endFlight_frame (t : Nat) (p : Part) : Part.changesOnly [.queue, .draws, .mgmt] p (endFlight t p).1 := by
  unfold endFlight
  split
  · exact frame_refl p
  · split
    · exact settleFail_frame _ _ _
    · exact settleFail_frame _ _ _
    · exact settleFail_frame _ _ _
    · exact frame_refl p

theorem reacquire_frame (p : Part) :
    Part.changesOnly [.queue, .draws, .mgmt, .ctl, .port, .offers, .log, .emg] p (reacquire p) := by
  unfold reacquire
  simp only
  refine frame_trans (q := clearSchedule _) (frame_mono (frame_trans (setCtl_frame _ _) (clearSchedule_frame _)) (by decide))
    (frame_trans (frame_mono (settleAll_frame (bs := [.queue, .draws, .mgmt]) _ ?_ _) (by decide))
      (frame_trans (frame_mono (setAcq_frame _ _) (by decide)) (frame_mono (deliverReports_frame _ _) (by decide))))
  intro f hf q
  simp only [List.mem_map] at hf
  obtain ⟨t, _, rfl⟩ := hf
  exact endFlight_frame t q

/-! ### Markers and missed markers -/

theorem acquireMarker_frame (m : Marker) (s : Bool) (p : Part) :
    Part.changesOnly [.queue, .draws, .mgmt, .ctl, .port, .offers, .log, .emg] p (acquireMarker m s p) := by
  unfold acquireMarker
  split
  · split
    · exact frame_trans (frame_mono (frame_step (ds := [.ctl, .port]) (setCtl_frame _ _) (setAcq_frame _ _)) (by decide))
        (lockedMarker_frame _ _)
    · exact frame_mono (setCtl_frame _ _) (by decide)
  · exact frame_mono (setCtl_frame _ _) (by decide)

theorem stateMarker_frame (m : Marker) (s : Bool) (p : Part) :
    Part.changesOnly [.queue, .draws, .mgmt, .ctl, .port, .offers, .log, .emg] p (stateMarker m s p) := by
  unfold stateMarker
  split
  · exact frame_mono (frame_step (ds := [.ctl, .port]) (setCtl_frame _ _) (setAcq_frame _ _)) (by decide)
  · exact acquireMarker_frame _ _ _
  · exact frame_ite (lockedMarker_frame _ _) (reacquire_frame _)
  · exact frame_ite (frame_trans (frame_mono (frame_step (ds := [.ctl, .port]) (setCtl_frame _ _) (setAcq_frame _ _)) (by decide))
        (lockedMarker_frame _ _)) (reacquire_frame _)
  · exact frame_mono (frame_step (ds := [.ctl, .port]) (setCtl_frame _ _) (takePages_frame _ _)) (by decide)

/-- The parts a heard marker reaches (R1, R5, R143). -/
theorem takeMarker_frame (m : Marker) (a : Nat) (p : Part) :
    Part.changesOnly [.sig, .queue, .mgmt, .draws, .port, .offers, .log, .emg, .ctl, .clock] p (takeMarker m a p) :=
  frame_trans (frame_mono (takeTiming_frame _ _ _) (by decide)) (frame_trans (frame_mono (stateMarker_frame _ _ _) (by decide))
    (frame_trans (frame_mono (endCycleStart_frame _ _) (by decide)) (frame_mono (takeMarkerTime_frame _ _ _ _) (by decide))))

theorem markerFrame_frame (f : List Byte) (a : Nat) (p : Part) :
    Part.changesOnly [.sig, .queue, .mgmt, .draws, .port, .offers, .log, .emg, .ctl, .clock] p (markerFrame f a p) := by
  unfold markerFrame
  split
  · exact frame_refl p
  · exact takeMarker_frame _ _ _

theorem missTiming_frame (p : Part) :
    Part.changesOnly [.sig, .queue, .mgmt, .draws, .port, .offers, .log, .emg, .ctl, .clock] p (missTiming p) := by
  unfold missTiming
  exact frame_trans (frame_mono (startCycle_frame _ _) (by decide))
    (frame_mono (frame_step (ds := [.ctl, .clock]) (setCtl_frame _ _) (reachTime_frame _ _)) (by decide))

theorem missEntry_frame (t : Nat) (p : Part) : Part.changesOnly [.queue, .draws, .mgmt] p (missEntry t p).1 := by
  unfold missEntry
  split
  · exact frame_refl p
  · split
    · split
      · exact settleFail_frame _ _ _
      · exact frame_mono (withEntries_frame _ _) (by decide)
    · exact waitForGrant_frame _ _ _
    · exact frame_refl p
    · exact frame_refl p

theorem missWaits_frame (p : Part) :
    Part.changesOnly [.queue, .draws, .mgmt, .port, .offers, .log, .emg] p (missWaits p) := by
  unfold missWaits
  refine frame_trans (frame_mono (settleAll_frame (bs := [.queue, .draws, .mgmt]) _ ?_ p) (by decide))
    (frame_mono (deliverReports_frame _ _) (by decide))
  intro f hf q
  simp only [List.mem_map] at hf
  obtain ⟨t, _, rfl⟩ := hf
  exact missEntry_frame t q

theorem stateMiss_frame (b : Bool) (p : Part) :
    Part.changesOnly [.queue, .draws, .mgmt, .ctl, .port, .offers, .log, .emg] p (stateMiss b p) := by
  have hs : ∀ (a : AcqState) (c : Controller) (q : Part), Part.changesOnly [.ctl, .port] q (setAcq a (q.setCtl c)) :=
    fun a c q => frame_step (setCtl_frame _ _) (setAcq_frame _ _)
  unfold stateMiss
  split
  · exact frame_refl p
  · exact frame_mono (hs _ _ _) (by decide)
  · refine frame_trans (frame_mono (frame_step (ds := [.ctl, .port]) (setCtl_frame _ _) (setAcq_frame _ _)) (by decide))
      (frame_mono (missWaits_frame _) (by decide))
  · unfold holdoverMiss
    split
    · exact frame_trans (frame_mono (hs _ _ _) (by decide)) (frame_mono (missWaits_frame _) (by decide))
    · exact frame_trans (frame_mono (setCtl_frame _ _) (by decide)) (frame_mono (missWaits_frame _) (by decide))
  · unfold parkedMiss
    split
    · split
      · exact frame_mono (hs _ _ _) (by decide)
      · exact frame_mono (setCtl_frame _ _) (by decide)
    · exact frame_refl p

/-- The parts a missed marker reaches (R1). -/
theorem missMarker_frame (p : Part) :
    Part.changesOnly [.sig, .queue, .mgmt, .draws, .port, .offers, .log, .emg, .ctl, .clock] p (missMarker p) :=
  frame_trans (missTiming_frame _) (frame_trans (frame_mono (stateMiss_frame _ _) (by decide))
    (frame_mono (endCycleStart_frame _ _) (by decide)))

/-! ### Slots, lines, groups -/

theorem releaseBursts_frame (e : Entry) (st : EntryState) (bs : List Burst) (p : Part) :
    Part.changesOnly [.queue, .air] p (releaseBursts e st bs p) := frame_step (withEntries_frame _ _) (setAir_frame _ _)

theorem releaseEntry_frame (u : SlotUse) (e : Entry) (p : Part) : Part.changesOnly [.queue, .air] p (releaseEntry u e p) := by
  unfold releaseEntry
  split
  · exact releaseBursts_frame _ _ _ _
  · split
    · exact releaseBursts_frame _ _ _ _
    · exact releaseBursts_frame _ _ _ _

theorem checkRelease_frame (u : SlotUse) (e : Entry) (p : Part) :
    Part.changesOnly [.queue, .air, .draws, .mgmt, .port, .offers, .log, .emg] p (checkRelease u e p) := by
  unfold checkRelease
  refine frame_ite (frame_refl p) (frame_ite (frame_ite ?_ (frame_refl p)) ?_)
  · exact frame_trans (frame_mono (settleFail_frame e.tag .noGrant p) (by decide))
      (frame_mono (deliverReports_frame _ _) (by decide))
  · exact frame_mono (releaseEntry_frame u e p) (by decide)

theorem slotStarts_frame (n : Nat) (p : Part) :
    Part.changesOnly [.ctl, .queue, .air, .draws, .mgmt, .port, .offers, .log, .emg] p (slotStarts n p) := by
  unfold slotStarts
  split
  · exact frame_refl p
  · simp only
    split
    · split
      · exact frame_mono (setCtl_frame _ _) (by decide)
      · exact frame_trans (frame_mono (setCtl_frame _ _) (by decide)) (frame_mono (checkRelease_frame _ _ _) (by decide))
    · exact frame_mono (setCtl_frame _ _) (by decide)

theorem ignitionUp_frame (p : Part) : Part.changesOnly [.lines, .ctl, .port] p (ignitionUp p) := by
  unfold ignitionUp
  split
  · exact frame_refl p
  · exact frame_step (frame_step (ds := [.lines, .ctl]) (setLines_frame _ _) (setCtl_frame _ _)) (wake_frame _)

theorem ignitionDown_frame (p : Part) : Part.changesOnly [.lines] p (ignitionDown p) := setLines_frame _ _

theorem ignitionTick_frame (p : Part) : Part.changesOnly [.ctl] p (ignitionTick p) :=
  frame_ite (frame_refl p) (setCtl_frame _ _)

theorem takeGroups_frame (gs : List Nat) (p : Part) : Part.changesOnly [.ctl] p (takeGroups gs p) :=
  frame_ite (frame_refl p) (setCtl_frame _ _)

theorem missWhen_frame (c : Part → Bool) (p : Part) :
    Part.changesOnly [.sig, .queue, .mgmt, .draws, .port, .offers, .log, .emg, .ctl, .clock] p (missWhen c p) :=
  frame_ite (missMarker_frame p) (frame_refl p)

theorem settlingEvent_frame (a : Settling) (p : Part) :
    Part.changesOnly [.sig, .queue, .mgmt, .draws, .port, .offers, .log, .emg, .ctl, .clock] p (settlingEvent a p) := by
  unfold settlingEvent
  split
  · exact markerFrame_frame _ _ _
  · exact missMarker_frame _

/-! ### Queries, faults, identity -/

theorem answerQuery_frame (a : QueryAnswer) (p : Part) : Part.changesOnly [.port] p (answerQuery a p) := by
  unfold answerQuery
  split <;> exact answer_frame _ _ _

theorem replyQuery_frame (a : QueryAnswer) (p : Part) : Part.changesOnly [.queue, .draws, .log] p (replyQuery a p) :=
  offerEntry_routine_frame _ _ _ rfl

theorem query_frame (f : Part → QueryAnswer) (src : Source) (p : Part) :
    Part.changesOnly [.queue, .draws, .log, .port] p (query f src p) := by
  unfold query
  split
  · exact receiveFrame_frame _ _ _ (fun q => frame_mono (replyQuery_frame _ _) (by decide))
  · exact takeRequest_frame _ _ _ _ (fun q => frame_mono (answerQuery_frame _ _) (by decide)) (by decide)

theorem queryStatus_frame (src : Source) (p : Part) :
    Part.changesOnly [.queue, .draws, .log, .port] p (queryStatus src p) := by
  unfold queryStatus
  split
  · exact receiveFrame_frame _ _ _
      (fun q => frame_mono (frame_trans (reportStatus_frame q) (replyQuery_frame _ _)) (by decide))
  · exact takeRequest_frame _ _ _ _ (fun q => frame_mono (answerQuery_frame _ _) (by decide)) (by decide)

theorem answerBad_frame (req item : Nat) (p : Part) : Part.changesOnly [.port] p (answerBad req item p) :=
  placeResponse_frame _ _ _ _ _

theorem queryTrip_frame (src : Source) (n : Option Nat) (p : Part) :
    Part.changesOnly [.queue, .draws, .log, .port] p (queryTrip src n p) := by
  unfold queryTrip
  split
  · exact query_frame _ _ _
  · split
    · exact frame_refl p
    · exact frame_mono (answerBad_frame _ _ _) (by decide)

theorem unknownQuery_frame (src : Source) (p : Part) : Part.changesOnly [.port] p (unknownQuery src p) := by
  unfold unknownQuery
  split
  · exact frame_refl p
  · exact answerBad_frame _ _ _

theorem clearNamed_frame (fs : List Flag) (r : Bool) (p : Part) : Part.changesOnly [.mgmt, .queue] p (clearNamed fs r p) := by
  unfold clearNamed
  simp only
  split
  · exact frame_step (clearFlags_frame _ _) (setQueue_frame _ _)
  · exact frame_mono (clearFlags_frame _ _) (by decide)

theorem faultsCleared_frame (src : Source) (fs : Option (List Flag)) (r : Bool) (p : Part) :
    Part.changesOnly [.mgmt, .queue, .port] p (faultsCleared src fs r p) := by
  unfold faultsCleared
  split
  · exact takeRequestWith_frame _ _ _ _ _ (fun v q => frame_step (clearNamed_frame _ _ _) (answer_frame _ _ _)) (by decide)
  · split
    · exact frame_refl p
    · exact receiveFrame_frame _ _ _ (fun q => frame_mono (clearNamed_frame _ _ _) (by decide))

theorem takeChannel_frame (i : ChannelLoad) (p : Part) : Part.changesOnly [.mgmt] p (takeChannel i p) := setMgmt_frame _ _

theorem takeIdentity_frame (h : AirHeader) (n : BitVec 32) (i : Identity) (p : Part) :
    Part.changesOnly [.mgmt] p (takeIdentity h n i p) := frame_ite (setMgmt_frame _ _) (frame_refl p)

theorem transmitted_frame (p : Part) : Part.changesOnly [.port] p (transmitted p) := setPort_frame _ _

/-! ### Restarts -/

/-- Where the supply mark has not held, power returns to a cold start-up (R203). -/
@[simp] theorem powerReturns_lost (i w : Bool) (p : Part) :
    powerReturns i w (supplyLost p) = startUp w (coldBlocks i (supplyLost p)) := rfl

/-- Where the retained domain passes its check, power returns to a warm start-up (R203). -/
theorem powerReturns_kept {p : Part} (h : retainedPasses p = true) (i w : Bool) :
    powerReturns i w p = startUp w (warmBlocks i p) := by simp [powerReturns, h]

theorem resumeEmergency_frame (p : Part) :
    Part.changesOnly [.emg, .queue, .draws, .ctl, .port, .offers, .log] p (resumeEmergency p) :=
  frame_ite (offerFrame_frame p) (frame_refl p)

theorem refuseHeld_frame (p : Part) : Part.changesOnly [.port] p (refuseHeld p) :=
  frame_ite (answer_frame _ _ p) (frame_refl p)

theorem renotifyOffers_frame (p : Part) : Part.changesOnly [.port] p (renotifyOffers p) :=
  frame_foldl _ (fun q (o : Offer) => placeNotice_frame (offerNotice o) q) _ p

theorem renotifyMessages_frame (p : Part) : Part.changesOnly [.port] p (renotifyMessages p) :=
  frame_foldl _ (fun q (m : Message) => placeNotice_frame (.message m) q) _ p

/-- What holds of a new action and of every action of a list holds of every action of the list with the new one. -/
theorem insertRank_forall {P : (Part → Part) → Prop} (r : Nat) (f : Part → Part) (hf : P f) :
    ∀ (l : List (Nat × (Part → Part))), (∀ x ∈ l, P x.2) → ∀ x ∈ insertRank r f l, P x.2
  | [], _, x, hx => by simp [insertRank] at hx; exact hx ▸ hf
  | y :: l, hl, x, hx => by
    unfold insertRank at hx
    split at hx
    · rcases List.mem_cons.1 hx with h | h
      · exact h ▸ hf
      · exact hl x h
    · rcases List.mem_cons.1 hx with h | h
      · exact h ▸ hl y (by simp)
      · exact insertRank_forall r f hf l (fun z hz => hl z (List.mem_cons_of_mem _ hz)) x h

theorem handRestart_frame (p : Part) : Part.changesOnly [.zones, .draws, .port] p (handRestart p) := by
  have hall : ∀ x ∈ renotifyOrder p.draws, ∀ q, Part.changesOnly [.zones, .draws, .port] q (x.2 q) :=
    insertRank_forall (P := fun f => ∀ q, Part.changesOnly [.zones, .draws, .port] q (f q)) _ _
      (fun q => frame_mono (renotifyOffers_frame q) (by decide)) _
      (insertRank_forall (P := fun f => ∀ q, Part.changesOnly [.zones, .draws, .port] q (f q)) _ _
        (fun q => frame_mono (renotifyMessages_frame q) (by decide)) _
        (insertRank_forall (P := fun f => ∀ q, Part.changesOnly [.zones, .draws, .port] q (f q)) _ _
          (fun q => frame_mono (notifyMeter_frame q) (by decide)) [] (fun x hx => absurd hx (by simp))))
  have hfold : ∀ (l : List (Nat × (Part → Part))) (q : Part),
      (∀ x ∈ l, ∀ q, Part.changesOnly [.zones, .draws, .port] q (x.2 q)) →
      Part.changesOnly [.zones, .draws, .port] q (l.foldl (fun p f => f.2 p) q) := by
    intro l
    induction l with
    | nil => intro q _; exact frame_refl q
    | cons x l ih =>
      intro q h
      exact frame_trans (h x (by simp) q) (ih _ (fun y hy => h y (List.mem_cons_of_mem _ hy)))
  exact frame_trans (frame_mono (frame_step (ds := [.zones, .draws]) (setZones_frame _ _) (drawn_frame _)) (by decide))
    (hfold _ _ hall)

/-- The parts a terminal restart reaches (R202). -/
theorem restartTerminal_frame (req : Nat) (p : Part) : Part.changesOnly [.zones, .draws, .port] p (restartTerminal req p) :=
  frame_trans (frame_mono (frame_trans (setPort_frame _ _) (frame_trans (placeResponse_frame _ _ _ _ _)
    (placeNotice_frame _ _))) (by decide)) (handRestart_frame _)

end Sys2Proof.Machine
end

