-- ==== Sys2Proof/Laws/Answers.lean ====
section
/-! SUPPORT. Which operations answer nothing: those that place notices alone keep the responses and the outstanding request.
And what an answer gives after them. -/

namespace Sys2Proof.Machine

-- Proofs one after another: in parallel, in the package as one text, each would wait for the kernel on a thread of its own.
set_option Elab.async false

/-! ### Composition -/

theorem kept_refl (p : Part) : answersKept p p := ⟨rfl, rfl⟩

theorem kept_trans {p q r : Part} (h : answersKept p q) (k : answersKept q r) : answersKept p r :=
  ⟨k.1.trans h.1, k.2.trans h.2⟩

theorem kept_ite {c : Prop} [Decidable c] {p q r : Part} (h : answersKept p q) (k : answersKept p r) :
    answersKept p (if c then q else r) := by
  split
  · exact h
  · exact k

theorem kept_foldl {α : Type} (f : Part → α → Part) (h : ∀ p a, answersKept p (f p a)) :
    ∀ (l : List α) (p : Part), answersKept p (l.foldl f p)
  | [], p => kept_refl p
  | a :: l, p => kept_trans (h p a) (kept_foldl f h l (f p a))

/-- A change that does not reach the port answers nothing. -/
theorem kept_of_frame {bs : List Block} {p q : Part} (h : Part.changesOnly bs p q) (hb : Block.port ∉ bs := by decide) :
    answersKept p q := by
  have e : q.port = p.port := h .port hb
  exact ⟨by unfold responses; rw [e], by rw [e]⟩

/-! ### Notices -/

theorem placeNotice_kept (body : NoticeBody) (p : Part) : answersKept p (placeNotice body p) :=
  ⟨placeNotice_responses _ _, placeNotice_outstanding _ _⟩

theorem setAcq_kept (a : AcqState) (p : Part) : answersKept p (setAcq a p) := by
  unfold setAcq
  split
  · exact kept_refl p
  · exact kept_trans (kept_of_frame (setCtl_frame _ _)) (placeNotice_kept _ _)

theorem wake_kept (p : Part) : answersKept p (wake p) := by
  unfold wake
  split
  · exact kept_trans (kept_of_frame (setCtl_frame _ _)) (setAcq_kept _ _)
  · exact kept_refl p

theorem closeOffer_kept (id : Nat) (r : CloseReason) (w : Option WithdrawReason) (p : Part) :
    answersKept p (closeOffer id r w p) := by
  unfold closeOffer
  split
  · exact kept_refl p
  · exact kept_trans (kept_of_frame (setOffers_frame _ _)) (placeNotice_kept _ _)

theorem moveOffer_kept (id : Nat) (st : OfferState) (b : Bool) (p : Part) : answersKept p (moveOffer id st b p) := by
  unfold moveOffer
  split
  · exact kept_refl p
  · exact kept_trans (kept_of_frame (setOffers_frame _ _)) (placeNotice_kept _ _)

theorem bidReport_kept (id : Nat) (o : EntryOutcome) (p : Part) : answersKept p (bidReport id o p) := by
  unfold bidReport
  split
  · exact kept_refl p
  · split
    · split
      · exact moveOffer_kept _ _ _ _
      · exact closeOffer_kept _ _ _ _
      · exact moveOffer_kept _ _ _ _
    · exact kept_refl p

theorem actOnEviction_kept (e : Entry) (p : Part) : answersKept p (actOnEviction e p) := by
  unfold actOnEviction
  simp only
  split
  · exact bidReport_kept _ _ _
  · exact placeNotice_kept _ _
  · exact placeNotice_kept _ _
  · exact kept_ite (kept_of_frame (setDelivery_frame _ _ _)) (kept_refl p)
  · exact kept_of_frame (summaryBack_frame _)
  all_goals exact kept_refl p

theorem admitQueue_kept (b : Body) (s x : Option Nat) (p : Part) : answersKept p (admitQueue b s x p).1 := by
  unfold admitQueue
  simp only
  split
  · have h : ∀ es, answersKept p (addEntry b s x (withEntries es p)) := fun es =>
      kept_trans (kept_of_frame (withEntries_frame _ _)) (kept_of_frame (addEntry_frame _ _ _ _))
    simp only
    split
    · exact h _
    · exact kept_trans (h _) (wake_kept _)
  · exact kept_refl p

theorem admitEntry_kept (b : Body) (s x : Option Nat) (p : Part) : answersKept p (admitEntry b s x p).1 :=
  kept_trans (admitQueue_kept b s x p) (kept_foldl _ (fun q e => actOnEviction_kept e q) _ _)

theorem offerEntry_kept (b : Body) (s : Option Nat) (p : Part) : answersKept p (offerEntry b s p) := admitEntry_kept _ _ _ _

theorem actOnReport_kept (r : Report) (p : Part) : answersKept p (actOnReport r p) := by
  unfold actOnReport
  simp only
  split
  · exact kept_ite (kept_of_frame (emergencyAcked_frame _)) (kept_refl p)
  · exact kept_ite (kept_of_frame (emergencyAcked_frame _)) (kept_refl p)
  · exact bidReport_kept _ _ _
  · exact kept_refl p
  · exact kept_refl p
  · exact placeNotice_kept _ _
  · split
    · exact kept_refl p
    · exact placeNotice_kept _ _
    · exact placeNotice_kept _ _
  · exact kept_refl p
  · exact kept_refl p
  · exact kept_of_frame (tripReport_frame _ _ _)
  · split
    · exact kept_of_frame (summaryDelivered_frame _)
    · exact kept_of_frame (summaryBack_frame _)
    · exact kept_of_frame (summaryBack_frame _)

theorem deliverReports_kept (rs : List Report) (p : Part) : answersKept p (deliverReports rs p) :=
  kept_foldl _ (fun q r => actOnReport_kept r q) rs p

theorem offerEmergency_kept (b : Body) (p : Part) : answersKept p (offerEmergency b p) := by
  unfold offerEmergency
  split
  · exact kept_trans (kept_of_frame (replaceEntry_frame _ _ _)) (wake_kept _)
  · exact kept_ite (kept_of_frame (setQueue_frame _ _)) (offerEntry_kept _ _ _)

/-! ### Meter and offer table -/

theorem notifyMeter_kept (p : Part) : answersKept p (notifyMeter p) := placeNotice_kept _ _

theorem handOn_kept (p : Part) : answersKept p (handOn p) :=
  kept_trans (kept_of_frame (reportStatus_frame p)) (kept_trans (notifyMeter_kept _) (kept_of_frame (followSign_frame _)))

theorem setMeterState_kept (st : MeterState) (p : Part) : answersKept p (setMeterState st p) := by
  unfold setMeterState
  simp only
  exact kept_trans (kept_of_frame (setMeter_frame _ _)) (kept_trans (kept_ite (wake_kept _) (kept_refl _)) (handOn_kept _))

theorem assignMeter_kept (id : Nat) (p : Part) : answersKept p (assignMeter id p) :=
  kept_ite (kept_trans (kept_of_frame (setMeter_frame _ _)) (setMeterState_kept _ _)) (kept_refl p)

theorem jobGone_kept (p : Part) : answersKept p (jobGone p) :=
  kept_ite (kept_trans (kept_of_frame (setMeter_frame _ _)) (setMeterState_kept _ _)) (kept_refl p)

theorem openTrip_kept (j : Option JobId) (pr : Price) (p : Part) : answersKept p (openTrip j pr p) :=
  kept_trans (kept_of_frame (setMeter_frame _ _)) (setMeterState_kept _ _)

theorem closeWithBid_kept (r : CloseReason) (o : Offer) (p : Part) : answersKept p (closeWithBid r o p) :=
  kept_trans (kept_ite (kept_of_frame (removeEntry_frame _ _ _)) (kept_refl p)) (closeOffer_kept _ _ _ _)

theorem cancelOpenOffers_kept (p : Part) : answersKept p (cancelOpenOffers p) :=
  kept_foldl _ (fun q o => closeWithBid_kept _ o q) _ p

theorem suppressOffers_kept (p : Part) : answersKept p (suppressOffers p) :=
  kept_foldl _ (fun q (o : Offer) => closeOffer_kept o.id .suppressed none q) _ p

theorem expireAccepted_kept (id : Nat) (p : Part) : answersKept p (expireAccepted id p) := by
  unfold expireAccepted
  split
  · exact closeOffer_kept _ _ _ _
  · exact kept_ite (kept_refl p) (kept_trans (kept_of_frame (removeEntry_frame _ _ _)) (closeOffer_kept _ _ _ _))

theorem deadlineEntry_kept (o : Offer) (p : Part) : answersKept p (deadlineEntry o p) := by
  unfold deadlineEntry
  split
  · split
    · exact closeOffer_kept _ _ _ _
    · exact expireAccepted_kept _ _
    all_goals exact kept_refl p
  · exact kept_refl p

theorem offerFrame_kept (p : Part) : answersKept p (offerFrame p) :=
  kept_trans (kept_of_frame (setEmg_frame _ _)) (offerEmergency_kept _ _)

theorem showHeld_kept (p : Part) : answersKept p (showHeld p) :=
  kept_trans (kept_of_frame (setMsgs_frame _ _))
    (kept_foldl _ (fun q (m : Message) => placeNotice_kept (.message { m with held := false }) q) _ _)

/-! ### Answers -/

/-- A free port's request is outstanding and no more than 3 responses stand in the list. -/
theorem portFree_iff (p : Part) : portFree p = true ↔ p.port.outstanding = none ∧ (responses p).length < 4 := by
  simp [portFree, responses]

/-- What an owner's answer gives, after anything that answers nothing, to a request taken while the port was free. -/
theorem answered_of_kept {req item : Nat} {p q : Part} (code : RespCode) (body : RespBody) (hp : portFree p = true)
    (hk : answersKept (p.setPort { p.port with outstanding := some ⟨req, item, false⟩ }) q) :
    answered req item code body p (answer code body q) := by
  obtain ⟨-, hr⟩ := (portFree_iff p).1 hp
  obtain ⟨h1, h2⟩ := hk
  have e : responses q = responses p := h1
  refine ⟨?_, answer_outstanding _ _ _⟩
  rw [answer_responses code body q req item h2 (by rw [e]; exact hr), e]

/-- A request taken while the port is free, as its owner finds it. -/
theorem takeRequest_of_free (req item : Nat) (owner : Part → Part) (p : Part) (h : portFree p = true) :
    takeRequest req item owner p = owner (p.setPort { p.port with outstanding := some ⟨req, item, false⟩ }) :=
  takeRequest_free req item owner p ((portFree_iff p).1 h).1

end Sys2Proof.Machine
end

