-- ==== Sys2Proof/Laws/Offers.lean ====
section
/-! SUPPORT. The offer table's operations: an entry is found by its id, changes happen in its place, ids stay (R61, R66). -/

namespace Sys2Proof.Machine

-- Proofs one after another: in parallel, in the package as one text, each would wait for the kernel on a thread of its own.
set_option Elab.async false

theorem findOffer_some {id : Nat} {os : List Offer} {o : Offer} (h : findOffer id os = some o) : o ∈ os ∧ o.id = id := by
  refine ⟨List.mem_of_find?_eq_some h, ?_⟩
  simpa using List.find?_some h

theorem findOffer_none {id : Nat} {os : List Offer} : findOffer id os = none ↔ ∀ o ∈ os, o.id ≠ id := by
  simp [findOffer]

/-- Where ids differ, the entry of an id is the one found by it (R61). -/
theorem findOffer_of_mem {os : List Offer} {o : Offer} (hd : (os.map (fun x => x.id)).Nodup) (h : o ∈ os) :
    findOffer o.id os = some o := by
  induction os with
  | nil => simp at h
  | cons x xs ih =>
    simp only [List.map_cons, List.nodup_cons, List.mem_map] at hd
    rcases List.mem_cons.1 h with rfl | hx
    · simp [findOffer]
    · have hne : x.id ≠ o.id := fun e => hd.1 ⟨o, hx, e.symm⟩
      have := ih hd.2 hx
      simpa [findOffer, hne] using this

@[simp] theorem replaceOffer_ids (o : Offer) (os : List Offer) :
    (replaceOffer o os).map (fun x => x.id) = os.map (fun x => x.id) := by
  simp only [replaceOffer, List.map_map]
  apply List.map_congr_left
  intro x _
  simp only [Function.comp]
  split
  · rename_i h; exact h.symm
  · rfl

@[simp] theorem replaceOffer_length (o : Offer) (os : List Offer) : (replaceOffer o os).length = os.length := by
  simp [replaceOffer]

/-- What closing an entry does to the table (R66). -/
theorem closeOffer_offers (id : Nat) (r : CloseReason) (w : Option WithdrawReason) (p : Part) :
    (closeOffer id r w p).offers =
      match findOffer id p.offers with
      | none => p.offers
      | some o => p.offers.map (fun x => if x.id = id then closedOffer r w o else x) := by
  unfold closeOffer
  cases h : findOffer id p.offers with
  | none => rfl
  | some o =>
    show (placeNotice _ _).offers = _
    rw [(placeNotice_frame _ _) .offers (by decide)]
    have hid : o.id = id := (findOffer_some h).2
    show replaceOffer (closedOffer r w o) p.offers = _
    simp only [replaceOffer, closedOffer, hid]

/-- What moving an entry to another state does to the table (R66). -/
theorem moveOffer_offers (id : Nat) (st : OfferState) (b : Bool) (p : Part) :
    (moveOffer id st b p).offers =
      match findOffer id p.offers with
      | none => p.offers
      | some o => p.offers.map (fun x => if x.id = id then { o with state := st } else x) := by
  unfold moveOffer
  cases h : findOffer id p.offers with
  | none => rfl
  | some o =>
    show (placeNotice _ _).offers = _
    rw [(placeNotice_frame _ _) .offers (by decide)]
    have hid : o.id = id := (findOffer_some h).2
    show replaceOffer { o with state := st } p.offers = _
    simp only [replaceOffer, hid]

theorem closeOffer_ids (id : Nat) (r : CloseReason) (w : Option WithdrawReason) (p : Part) :
    (closeOffer id r w p).offers.map (fun x => x.id) = p.offers.map (fun x => x.id) := by
  unfold closeOffer
  split
  · rfl
  · rw [(placeNotice_frame _ _) .offers (by decide)]
    exact replaceOffer_ids _ _

theorem moveOffer_ids (id : Nat) (st : OfferState) (b : Bool) (p : Part) :
    (moveOffer id st b p).offers.map (fun x => x.id) = p.offers.map (fun x => x.id) := by
  unfold moveOffer
  split
  · rfl
  · rw [(placeNotice_frame _ _) .offers (by decide)]
    exact replaceOffer_ids _ _

end Sys2Proof.Machine
end

