-- ==== Sys2Proof/Laws/Queue.lean ====
section
/-! SUPPORT. Admission in a queue with room: nothing is evicted and the entry stands in the queue (R27, R33). -/

namespace Sys2Proof.Machine

-- Proofs one after another: in parallel, in the package as one text, each would wait for the kernel on a thread of its own.
set_option Elab.async false

theorem maxSize_pos (k : Kind) : 0 < maxSize k := by cases k <;> decide

theorem maxSize_le (k : Kind) : maxSize k ≤ 128 := by cases k <;> decide

/-- A body of a layout the spec does not give has at most its kind's largest size (log 7). -/
theorem bodySize_le_max (b : Body) (h : recordOf b = none) : bodySize b ≤ maxSize (kindOf b) := by
  have := Nat.mod_lt (Config.bodyLength b) (maxSize_pos (kindOf b))
  simp only [bodySize, h]
  omega

/-- Such a body has at most 128 bytes (log 7). -/
theorem bodySize_le (b : Body) (h : recordOf b = none) : bodySize b ≤ 128 :=
  Nat.le_trans (bodySize_le_max b h) (maxSize_le _)

/-- Such a body occupies at most 8 granules (R30). -/
theorem granuleCount_le (b : Body) (h : recordOf b = none) : granuleCount b ≤ 8 := by
  have := bodySize_le b h
  cases b <;> simp only [granuleCount] <;> omega

/-- A body has as many bytes as its byte count says. -/
@[simp] theorem bodyBytes_length (b : Body) : (bodyBytes b).length = bodySize b := by
  cases h : recordOf b <;> simp [bodyBytes, bodySize, h]

/-- A body fits its granules (R30). -/
theorem bodySize_le_granules (b : Body) : bodySize b ≤ 16 * granuleCount b := by
  cases b <;> simp only [granuleCount] <;> try omega
  · exact bodySize_le_max _ rfl
  · exact bodySize_le_max _ rfl

/-! ### Granules -/

@[simp] theorem length_writeGranules : ∀ (gs : List Nat) (bytes : List Byte) (store : List (List Byte)),
    (writeGranules gs bytes store).length = store.length
  | [], _, _ => rfl
  | g :: gs, bytes, store => by simp [writeGranules, length_writeGranules gs]

/-- A write leaves every granule outside its list as it was. -/
theorem writeGranules_other {g : Nat} : ∀ (gs : List Nat) (bytes : List Byte) (store : List (List Byte)), g ∉ gs →
    (writeGranules gs bytes store)[g]? = store[g]?
  | [], _, _, _ => rfl
  | h :: gs, bytes, store, hg => by
    simp only [List.mem_cons, not_or] at hg
    rw [writeGranules, writeGranules_other gs _ _ hg.2, List.getElem?_set_ne (Ne.symm hg.1)]

/-- What is written into granules is read from them, as far as they hold it (R30). -/
theorem readGranules_writeGranules : ∀ (gs : List Nat) (bytes : List Byte) (store : List (List Byte)), gs.Nodup →
    (∀ g ∈ gs, g < store.length) → readGranules gs (writeGranules gs bytes store) = bytes.take (16 * gs.length)
  | [], _, _, _, _ => by simp [readGranules]
  | g :: gs, bytes, store, hn, hl => by
    simp only [List.nodup_cons] at hn
    have hg : (writeGranules gs (bytes.drop 16) (store.set g (bytes.take 16)))[g]? = some (bytes.take 16) := by
      rw [writeGranules_other gs _ _ hn.1, List.getElem?_set_self (hl g (by simp))]
    have ih := readGranules_writeGranules gs (bytes.drop 16) (store.set g (bytes.take 16)) hn.2
      (fun x hx => by simpa using hl x (List.mem_cons_of_mem _ hx))
    simp only [readGranules] at ih ⊢
    rw [writeGranules, List.flatMap_cons, ih, List.getD_eq_getElem?_getD, hg, Option.getD_some, List.length_cons,
      Nat.mul_succ, Nat.add_comm, List.take_add]

/-- A write into other granules changes nothing of what a list of granules holds. -/
theorem readGranules_other (gs hs : List Nat) (bytes : List Byte) (store : List (List Byte)) (h : ∀ g ∈ gs, g ∉ hs) :
    readGranules gs (writeGranules hs bytes store) = readGranules gs store := by
  induction gs with
  | nil => rfl
  | cons g gs ih =>
    have ht := ih (fun x hx => h x (List.mem_cons_of_mem _ hx))
    simp only [readGranules] at ht ⊢
    rw [List.flatMap_cons, List.flatMap_cons, ht, List.getD_eq_getElem?_getD, List.getD_eq_getElem?_getD,
      writeGranules_other hs _ _ (h g (by simp))]

/-! ### Admission -/

theorem fits_of_room {b : Body} {p : Part} (hr : queueRoom p) (hb : granuleCount b ≤ 8) :
    fits (granuleCount b) p.queue.entries = true := by
  have := hr.1
  have := hr.2
  simp only [fits, Bool.and_eq_true, decide_eq_true_eq]
  omega

/-- Where the need is met already, nothing is evicted (R34). -/
theorem evictUntil_fits {need : Nat} {es : List Entry} (h : fits need es = true) :
    ∀ cs : List Entry, evictUntil need cs es = (es, [])
  | [] => rfl
  | _ :: _ => by simp [evictUntil, h]

/-- What an admission does where the queue has room: the entry is added, nothing is evicted, and an URGENT or EMERGENCY one
wakes a parked controller (R25, R33). -/
theorem admitQueue_room (b : Body) (s x : Option Nat) (p : Part) (hr : queueRoom p) (hb : granuleCount b ≤ 8) :
    admitQueue b s x p =
      (if isLowClass (classOf (kindOf b)) then addEntry b s x p else wake (addEntry b s x p), [], true) := by
  have hf := fits_of_room hr hb
  have hw : withEntries p.queue.entries p = p := rfl
  simp only [admitQueue, evictUntil_fits hf, hf, hw, if_true]

theorem admitEntry_room (b : Body) (s x : Option Nat) (p : Part) (hr : queueRoom p) (hb : granuleCount b ≤ 8) :
    admitEntry b s x p = (if isLowClass (classOf (kindOf b)) then addEntry b s x p else wake (addEntry b s x p), true) := by
  simp only [admitEntry, admitQueue_room b s x p hr hb, List.foldl_nil]

/-- In a queue that is full for a class no entry can be evicted for it (R33). -/
theorem evictionOrder_full {cls : AccessClass} {p : Part} (h : queueFull cls p) :
    evictionOrder cls p.queue.entries = [] := by
  simp only [evictionOrder, List.reverse_eq_nil_iff, List.filter_eq_nil_iff, evictable, Bool.and_eq_true,
    decide_eq_true_eq, not_and, Nat.not_lt]
  exact h.2

/-- A queue that is full for the frame's class refuses it and stays (R33). -/
theorem admitQueue_full (b : Body) (s x : Option Nat) (p : Part) (h : queueFull (classOf (kindOf b)) p) :
    admitQueue b s x p = (p, [], false) := by
  have := h.1
  simp only [admitQueue, evictionOrder_full h, evictUntil]
  rw [if_neg]
  simp only [fits, Bool.and_eq_true, decide_eq_true_eq]
  omega

theorem admitEntry_full (b : Body) (s x : Option Nat) (p : Part) (h : queueFull (classOf (kindOf b)) p) :
    admitEntry b s x p = (p, false) := by
  simp only [admitEntry, admitQueue_full b s x p h, List.foldl_nil]

/-- The entries after an insertion are those before it and the new one. -/
theorem mem_insertEntry {e x : Entry} : ∀ {es : List Entry}, x ∈ insertEntry e es ↔ x = e ∨ x ∈ es
  | [] => by simp [insertEntry]
  | y :: ys => by
    unfold insertEntry
    split
    · simp only [List.mem_cons, mem_insertEntry (es := ys)]
      constructor
      · rintro (h | h | h)
        · exact .inr (.inl h)
        · exact .inl h
        · exact .inr (.inr h)
      · rintro (h | h | h)
        · exact .inr (.inl h)
        · exact .inl h
        · exact .inr (.inr h)
    · simp only [List.mem_cons]

theorem length_insertEntry (e : Entry) : ∀ es : List Entry, (insertEntry e es).length = es.length + 1
  | [] => rfl
  | y :: ys => by
    unfold insertEntry
    split <;> simp [length_insertEntry e ys]

/-- The entry that an admission adds stands in the queue as R27 gives it, before and after a wake. -/
theorem addEntry_mem (b : Body) (s x : Option Nat) (p : Part) :
    freshEntry b s x (pickTag p.queue.tagPtr p.queue.entries) p.queue.nextUid p.queue.entries p ∈
      (addEntry b s x p).queue.entries := mem_insertEntry.2 (.inl rfl)

@[simp] theorem wake_queue (p : Part) : (wake p).queue = p.queue := (wake_frame p) .queue (by decide)

/-- A frame offered while the queue has room stands in it as a WAITING entry. -/
theorem admitEntry_holds (b : Body) (s x : Option Nat) (p : Part) (hr : queueRoom p) (hb : recordOf b = none) :
    (admitEntry b s x p).2 = true ∧ holdsEntry b s .waiting (admitEntry b s x p).1 := by
  rw [admitEntry_room b s x p hr (granuleCount_le b hb)]
  have hm := addEntry_mem b s x p
  have he : ∀ es : List Entry, freshEntry b s x (pickTag p.queue.tagPtr p.queue.entries) p.queue.nextUid p.queue.entries p ∈ es →
      ∃ e ∈ es, e.body = b ∧ e.source = s ∧ e.st = .waiting := fun es h => ⟨_, h, rfl, rfl, rfl⟩
  refine ⟨rfl, he _ ?_⟩
  simp only
  split
  · exact hm
  · rw [wake_queue]; exact hm

theorem offerEntry_holds (b : Body) (s : Option Nat) (p : Part) (hr : queueRoom p) (hb : recordOf b = none) :
    holdsEntry b s .waiting (offerEntry b s p) := (admitEntry_holds b s _ p hr hb).2

end Sys2Proof.Machine
end

