-- ==== Sys2Proof/Tests/Slice0.lean ====
section
/-! SUPPORT. The model's own tests: ill-formed commands that the checks refuse, the worked cases of the spec, each on one
step or one operation, and for every statement with hypotheses a state and operands that meet them. -/

open Sys2Proof Sys2Proof.Machine

namespace Sys2Proof.Tests

-- One after another: in parallel, in the package as one text, each would wait for the kernel on a thread of its own.
set_option Elab.async false

/-! ### Small states -/

def toAll : AirHeader := ⟨true, 5, .all, 0⟩
def toCab : AirHeader := ⟨true, 5, .cab, 1207⟩

/-- The image of chapter 06's worked cases: tariffs 1 and 2 of the first, tariff 3 of the second. -/
def image : Image where
  version := 41
  length := 300
  tariffs := [⟨1, 350, 20, 100, 20, 1000, .single⟩, ⟨2, 350, 25, 80, 16, 1000, .single⟩, ⟨3, 300, 10, 50, 10, 0, .double⟩]
  bands := [⟨1, [0], 360, 1⟩, ⟨1, [0], 1200, 2⟩]
  defaults := [3, 1, 1, 1]
  extras := [⟨1, 200, 1⟩]

def imageBank : Bank := { Bank.blank with image := some image, count := some 5 }

/-- A cab of fleet 5 with address 1207, LOCKED at cycle 300, on duty with K 2,000 and version 41. -/
def cab : Part :=
  { Part.reset with
    ctl := { Controller.cold with acq := .locked, cycle := 300, nOpen := 4 }
    meter := { Part.reset.meter with state := .vacant, k := 2000 }
    tariff := { Part.reset.tariff with bank0 := imageBank, activeVersion := 41 }
    clock := { Part.reset.clock with state := .synced, tod := 71925 }
    zones := { Resolver.cold with area := 1 }
    mgmt := { Part.reset.mgmt with identity := ⟨5, 1207, 3⟩, supplyMark := true, checkAgrees := true }
    lines := ⟨true, false, true⟩ }

def run (p : Part) : State := ⟨p, []⟩
def meterIn (st : MeterState) (p : Part) : Part := { p with meter := { p.meter with state := st } }
def acqIn (a : AcqState) (p : Part) : Part := { p with ctl := { p.ctl with acq := a } }
def alarmIn (st : EmergencyState) (p : Part) : Part := { p with emg := { p.emg with state := st } }
def storeIn (st : StagingState) (a : StoreActivity) (p : Part) : Part :=
  { p with tariff := { p.tariff with staging := st, activity := a, loadVersion := some 42, pageCount := some 2 } }
def waitingFor (req item : Nat) (p : Part) : Part := { p with port := { p.port with outstanding := some ⟨req, item, false⟩ } }
def withOffers (os : List Offer) (p : Part) : Part := { p with offers := os }
def withInbox (ms : List Message) (p : Part) : Part := { p with msgs := { p.msgs with inbox := ms } }
def withEntry (e : Entry) (p : Part) : Part := { p with queue := { p.queue with entries := [e] } }
def withTrip (t : Trip) (p : Part) : Part := { p with meter := { p.meter with trip := some t } }
def atCycle (c : Nat) (p : Part) : Part := { p with ctl := { p.ctl with cycle := c } }

def offerOf (id : Nat) (st : OfferState) (deadline : Nat) : Offer :=
  { (default : Offer) with id := id, state := st, deadline := deadline }
def messageOf (id : Nat) (pr : Priority) (form : ReplyForm) (st : MessageState) : Message :=
  ⟨id, .base, pr, form, ['x'], 0, st, false⟩
def entryOf (b : Body) (source : Option Nat) (st : EntryState) : Entry :=
  { (default : Entry) with
    body := b, source := source, size := 20, granules := [0, 1], tag := 9, st := st, attempts := 1,
    lastCause := some .noAck, window := 2, ackWindow := 2, queuedAt := 290, expiry := some 300, uid := 77 }
def beacon : Body := .beacon default
def trip : Trip := { (default : Trip) with number := 20431, imageVersion := 41, fare := openFare image 1 1 2000 .unpriced }
def record (n : Nat) (d : Delivery) : TripRecord := { (default : TripRecord) with number := n, delivery := d }
def markerOf (cycle : Nat) (acks : List (Nat × Nat)) (grants : List Grant) (pages : List Nat) : Marker :=
  ⟨5, cycle, 71926, 0, false, 4, acks, grants, pages⟩
def withNotices (n : Nat) (p : Part) : Part :=
  { p with port := { p.port with outbound := List.replicate n (.notice (.link .search 0) false) } }
def fullQueue (b : Body) (p : Part) : Part :=
  { p with
    queue :=
      { p.queue with
        entries := { entryOf b none .waiting with tag := 0, granules := [] } ::
          (List.range 11).map (fun i => { entryOf (.trip default) (some i) .sent with tag := i + 1, granules := [i] }) } }
def frameOf (cycle : Nat) : List Byte := writeMarker (markerOf cycle [] [] [])


/-! ### Ill-formed commands are refused by `Instr.wf` -/

theorem test_wf_header_fleet : (Instr.fleetRestart ⟨true, 256, .all, 0⟩).wf = false := by decide
theorem test_wf_header_address : (Instr.fleetRestart ⟨true, 5, .cab, 4096⟩).wf = false := by decide
theorem test_wf_header_group_zero : (Instr.fleetRestart ⟨true, 5, .group, 0⟩).wf = false := by decide
theorem test_wf_header_group_high : (Instr.fleetRestart ⟨true, 5, .group, 251⟩).wf = false := by decide
theorem test_wf_request_number : (Instr.hire 256).wf = false := by decide
theorem test_wf_slot : (Instr.slotStart 16).wf = false := by decide
theorem test_wf_dropped_kind : (Instr.downlinkFrameDropped toAll 64).wf = false := by decide
theorem test_wf_fix : (Instr.position 1 (some ⟨65536, 0, .good, 0⟩)).wf = false := by decide
theorem test_wf_fix_age : (Instr.position 1 (some ⟨0, 0, .good, 256⟩)).wf = false := by decide
theorem test_wf_zone_index : (Instr.loadZones toAll 64 []).wf = false := by decide
theorem test_wf_canned_index : (Instr.loadCanned toAll 32 []).wf = false := by decide
theorem test_wf_offer_id : (Instr.withdraw toAll 65536 none).wf = false := by decide
theorem test_wf_offer_deadline :
    (Instr.offer toCab ⟨1, .direct, [], false, 0, 0, .street, .unpriced, [], 4096⟩).wf = false := by decide
theorem test_wf_page_bytes : (Instr.tariffPage toAll 42 0 (List.replicate 63 0)).wf = false := by decide
theorem test_wf_sequence : (Instr.emergencyAck toCab 256).wf = false := by decide
theorem test_wf_sign_times : (Instr.setSignPattern 1 (some .hired) (some (256, 0))).wf = false := by decide
theorem test_wf_item_code : (Instr.unknownItemCode 1 256).wf = false := by decide
theorem test_wf_air_item_low : (Instr.airItemOnCabLink 1 31).wf = false := by decide
theorem test_wf_air_item_high : (Instr.airItemOnCabLink 1 42).wf = false := by decide
theorem test_wf_cab_item : (Instr.cabItemOnAirLink toAll 64).wf = false := by decide
theorem test_wf_source : (Instr.queryMeter (.cab 256)).wf = false := by decide
theorem test_wf_marker_slots : (Marker.wf { markerOf 300 [] [⟨1207, 9, 13, 4⟩] [] with nOpen := 4 }) = false := by decide
theorem test_wf_accepts : (Instr.hire 255).wf = true ∧ (Instr.fleetRestart ⟨true, 255, .cab, 4095⟩).wf = true := by decide

/-! ### Encodings and numbers -/

/-- The CRC of R19's parameters over the nine characters 1 to 9: the published check value of that CRC (from outside the
spec). -/
theorem test_crc_check_value : crc16 [0x31, 0x32, 0x33, 0x34, 0x35, 0x36, 0x37, 0x38, 0x39] = 0x29B1#16 := by decide +kernel

/-- A marker's bytes written out by hand from R205: fleet 5, kind 1, cycle 0x12D, time 71,926 = 0x118F6, four open slots,
one pair (1207, tag 9) = 0x4B79. -/
theorem test_marker_bytes :
    readMarker (sealFrame [5, 1, 0, 0, 0, 11, 0x01, 0x2D, 0x01, 0x18, 0xF6, 0x04, 1, 0, 0, 0x4B, 0x79]) =
      some (markerOf 301 [(1207, 9)] [] []) := by decide +kernel

theorem test_marker_kind_refused :
    readMarker (sealFrame [5, 2, 0, 0, 0, 9, 0x01, 0x2D, 0x01, 0x18, 0xF6, 0x04, 0, 0, 0]) = none := by decide +kernel

/-- A REQUEST envelope written out by hand from R205: request 9, item 4 (HIRE), no body. -/
theorem test_envelope_bytes : readEnvelope (sealFrame [1, 9, 4, 0, 0, 0]) = some (9, 4, []) := by decide +kernel

/-- R30: byte 16 of a body goes into the granule at list position 1. -/
theorem test_granule_positions :
    let store := writeGranules [7, 3] ((List.range 20).map (BitVec.ofNat 8)) (List.replicate 128 [])
    store[7]? = some ((List.range 16).map (BitVec.ofNat 8)) ∧ store[3]? = some [16, 17, 18, 19] := by decide +kernel

/-- 00, Cycle numbers: the comparison wraps at 4,096. -/
theorem test_cycle_wraps : cycleLater 2 4090 = true ∧ cycleLater 4090 2 = false ∧ cyclePassed 7 7 = true := by decide

/-- R146's table of windows, L = 1000: trim 25, 38, 9, discarded, 200. -/
theorem test_trim_table :
    trimAfter 0 64003200 1000 = some 25 ∧ trimAfter 25 64003200 1000 = some 38 ∧ trimAfter 38 63998720 1000 = some 9 ∧
      trimAfter 9 64030000 1000 = none ∧ trimAfter 190 64025600 1000 = some 200 := by decide

/-- 05's two windows: the first on the bound, the second past it. -/
theorem test_plausibility_windows :
    windowSuspect 2000 ⟨60, 1200, some (1000, 2000), some (1090, 2040), 2⟩ = false ∧
      windowSuspect 2000 ⟨60, 1200, some (1090, 2045), some (1185, 2085), 2⟩ = true := by decide

/-- 06's double mode case, second 5: two drops from 700,000 with 140 pulses. -/
theorem test_two_drops :
    let f := { openFare image 3 0 2000 .unpriced with progress := 700000, metered := 320 }
    (chargeDrops 140 f).progress = 200000 ∧ (chargeDrops 140 f).metered = 340 := by decide +kernel

/-- 06's single mode case, second 74: the first drop takes Q1 and sets the threshold to Q. -/
theorem test_first_drop :
    let f := { openFare image 1 1 2000 (.cap 380) with progress := 39800000 }
    (chargeDrops 30 f).progress = 400000 ∧ (chargeDrops 30 f).metered = 370 ∧ (chargeDrops 30 f).threshold = 4000000 := by
  decide +kernel

/-- 06's single mode case, second 75: the band evaluation names tariff 2 and the progress is rescaled to 640,000. -/
theorem test_rescale :
    let f := { openFare image 1 1 2000 (.cap 380) with progress := 400000, threshold := 4000000, metered := 370, firstDrop := true }
    let g := chargeSecond image 2 1 2000 30 (.cap 380) f
    g.progress = 640000 ∧ g.threshold = 2560000 ∧ g.tariff = 2 := by decide +kernel

/-- 06's single mode case at the CLOSE: the cap and the extra make 580. -/
theorem test_capped_fare : fareDue (.cap 380) 395 200 = 580 := by decide

/-- 03's table: the higher layer wins, and the point outside every entry resolves to 0. -/
theorem test_resolve_layers :
    let t := [some ⟨12, 1000, 1999, 2000, 2999, 0, 0, [13, 14]⟩, some ⟨13, 2000, 2999, 2000, 2999, 0, 1, [12]⟩,
      some ⟨40, 1800, 2199, 2400, 2599, 2, 2, []⟩]
    resolve t 1900 2450 = 40 ∧ resolve t 2500 2100 = 13 ∧ resolve t 500 500 = 0 := by decide

/-- 03's table: zone 15 has no entry, and is adjacent to 13, which names it. -/
theorem test_adjacent_without_entry :
    adjacent [some ⟨13, 3000, 3499, 2000, 2499, 0, 3, [15]⟩] 15 13 = true := by decide

/-- 02's fault sequence: the SOFT fault latches, the HARD one replaces it, the second HARD one marks it. -/
theorem test_fault_sequence :
    let f (hard : Bool) (k : Kind) (c : Cause) : LinkFault := ⟨hard, k, classOf k, 7, none, c, 3, 520, false⟩
    [f false .status .noAck, f false .text .noAck, f true .reply .noSlot, f true .trip .noGrant].foldl latchFault none =
      some { f true .reply .noSlot with second := true } := by decide

/-- 10's full store: the URGENT and READ message goes before the NORMAL and UNREAD one. -/
theorem test_full_store_eviction :
    (evictMessage [messageOf 500 .urgent .none .unread, messageOf 520 .urgent .none .read,
      messageOf 522 .normal .none .unread]).map (fun l => l.map (fun m => m.id)) = some [500, 522] := by decide

/-- 09's shift near saturation: 99,999,780 and 400 stay at 99,999,999. -/
theorem test_shift_saturates : satAdd 99999999 99999780 400 = 99999999 := by decide

/-- 01's contention: at slot 2 both entries are ready and the first in queue order is scheduled; counters 0 and 0. -/
theorem test_open_slot_contention :
    let b := { entryOf (.bid 1 0 false 0) none .waiting with counter := 2, uid := 1, tag := 1 }
    let a := { entryOf (.status default) none .waiting with counter := 1, uid := 2, tag := 2 }
    let r := runSlots 4 false false [0, 1, 2, 3] true [b, a]
    r.1 = some ⟨2, 1, false⟩ ∧ r.2.map (fun e => e.counter) = [0, 0] := by decide

/-- 01's reservation: 116 bytes ask for four slots, and the grant at slot 10 fits. -/
theorem test_reservation_slots :
    slotCount 116 = 4 ∧
      grantFits (markerOf 203 [] [] []) { entryOf (.trip default) none .reserving with size := 116 } cab ⟨1207, 9, 10, 4⟩ =
        true := by decide

/-- 12's hire behind a swap: the held HIRE leaves the list as it is, and the request after it is answered BUSY. -/
theorem test_busy_behind_held_hire :
    (match exec (.readStatus 42) (run (waitingFor 41 4 cab)) with
      | .next t => t.part.port.outbound
      | .fault _ => []
      | .refused _ => []) = [.response 42 19 .busy .none] := by decide +kernel

/-- R188's factory table: FOR VACANT steady, for SUSPENDED blinking at 5 on 5 off. -/
theorem test_factory_signs :
    signEntry SignTable.factory .vacant = ⟨10, 0⟩ ∧ signEntry SignTable.factory .suspended = ⟨5, 5⟩ := by decide

/-- R26, R47, R60, R149, R203, R204: some of the values the reset tables give. -/
theorem test_reset_values :
    State.reset.part.ctl.acq = .search ∧ State.reset.part.queue.tagPtr = 0 ∧ State.reset.part.zones.timer = 60 ∧
      State.reset.part.clock.state = .unset ∧ State.reset.part.meter.k = 1000 ∧ State.reset.part.port.outbound = [] ∧
      State.reset.part.mgmt.params.len = 1000 := by decide

/-- No row has bits: no word spells a command. -/
theorem test_no_word_spells : decodeTableWord 32 0 = none ∧ State.reset.withFetchWord 32 0 = State.reset := by
  exact ⟨rfl, rfl⟩

/-- R188, R191: a time above 255 is not of the item's form: BAD, and the request does not become outstanding. -/
theorem test_sign_time_bad :
    takeSignPattern 9 (some .hired) (some (256, 0)) cab =
      cab.setPort { cab.port with outbound := [.response 9 18 .bad .none] } := by decide

/-- 09, R153: a warm start-up begins again the update that was in flight, and the waiting change waits for its completion,
which writes the first and begins the second. -/
theorem test_warm_start_up_begins_the_log_update_again :
    let p := { cab with log := { cab.log with inFlight := some [.shiftNumber 7], waiting := [.shiftNumber 8] } }
    (warmBlocks true p).log.inFlight = some [.shiftNumber 7] ∧ (warmBlocks true p).log.waiting = [.shiftNumber 8] ∧
      (warmBlocks true p).log.nv = p.log.nv ∧
      (logUpdateCompletes (warmBlocks true p)).log.nv.shiftCounter = 7 ∧
      (logUpdateCompletes (warmBlocks true p)).log.inFlight = some [.shiftNumber 8] := by decide +kernel

/-- 12, R193: the 33rd notice is discarded and sets the overflow mark, which the next notice placed carries and clears. -/
theorem test_overflow_mark :
    (placeNotice (.link .locked 1) (withNotices 32 cab)).port.overflow = true ∧
    (let q := withNotices 31 cab
     let p := placeNotice (.link .locked 1) { q with port := { q.port with overflow := true } }
     p.port.overflow = false ∧ p.port.outbound.getLast? = some (.notice (.link .locked 1) true)) := by decide

/-- R94: a METER notice carries the price mode and not its value. -/
theorem test_meter_notice_mode :
    (meterTripBody { trip with price := .cap 1500 }).mode = .cap ∧
      meterTripBody { trip with price := .cap 1500 } = meterTripBody { trip with price := .cap 400 } := by decide

/-! ### A state and operands for the hypotheses of every statement

Each theorem names the statement whose hypotheses it meets, clause by clause, at the boundary values of their ranges. -/

theorem witness_DroppedFramesLeaveNoTrace :
    (frameHeader (.withdraw ⟨false, 5, .all, 0⟩ 7 none) = some ⟨false, 5, .all, 0⟩ ∧
      framePasses ⟨false, 5, .all, 0⟩ cab = false) ∧
    framePasses toAll (acqIn .parked cab) = false ∧ framePasses ⟨true, 5, .cab, 1206⟩ cab = false ∧
    heardMarker [5, 1, 0] cab = none ∧ openFrame [1, 9, 4, 0, 0, 0] = none ∧
    openFrame (sealFrame [2, 9, 4, 0, 0, 0]) = some [2, 9, 4, 0, 0, 0] ∧ beNat ([2, 9, 4, 0, 0, 0].take 1) ≠ 1 ∧
    openFrame (sealFrame [1, 9, 4, 0, 1, 145]) = some [1, 9, 4, 0, 1, 145] ∧
    400 < beNat (([1, 9, 4, 0, 1, 145].drop 4).take 2) ∧
    openFrame (sealFrame [1, 9, 4, 0, 0, 1]) = some [1, 9, 4, 0, 0, 1] ∧
    ([1, 9, 4, 0, 0, 1] : List Byte).length ≠ 6 + beNat (([1, 9, 4, 0, 0, 1].drop 4).take 2) := by decide +kernel

/-- A marker's 15 bytes with an acknowledgement, a grant and a page count. -/
def counted (acks grants pages : Byte) : List Byte :=
  [5, 1, 0, 0, 0, 9, 0x01, 0x2D, 0x01, 0x18, 0xF6, 0x04, acks, grants, pages]

theorem witness_DroppedFramesLeaveNoTrace_markers :
    openFrame [5, 1, 0] = none ∧ openFrame (sealFrame [5]) = some [5] ∧ ([5] : List Byte).length < 15 ∧
    (openFrame (sealFrame (counted 25 9 17)) = some (counted 25 9 17) ∧ 24 < beNat (((counted 25 9 17).drop 12).take 1) ∧
      8 < beNat (((counted 25 9 17).drop 13).take 1) ∧ 16 < beNat (((counted 25 9 17).drop 14).take 1)) ∧
    (openFrame (sealFrame (counted 1 0 0)) = some (counted 1 0 0) ∧ beNat (((counted 1 0 0).drop 4).take 2) ≠ 9 + 2 * 1) ∧
    (openFrame (frameOf 301) = some (counted 0 0 0) ∧ readMarker (frameOf 301) = some (markerOf 301 [] [] [])) := by
  decide +kernel

theorem witness_RequestsTurnedAway :
    (requestOf (.hire 9) = some (9, 4) ∧ requestOf (.clearFaults (.cab 9) (some []) false) = some (9, 21) ∧
      (waitingFor 41 4 cab).port.outstanding = some ⟨41, 4, false⟩) ∧
    (badRequestOf (.extra 9 none) = some (9, 8) ∧ badRequestOf (.unknownItemCode 9 255) = some (9, 255) ∧
      badRequestOf (.airItemOnCabLink 9 32) = some (9, 32) ∧ badRequestOf (.queryUnknownSubject (.cab 9)) = some (9, 20) ∧
      badRequestOf (.clearFaults (.cab 9) none true) = some (9, 21)) ∧
    (readEnvelope (writeRequest 9 0 []) = some (9, 0, []) ∧ readEnvelope (writeRequest 9 23 []) = some (9, 23, []) ∧
      22 < (23 : Nat)) ∧
    (readEnvelope (writeRequest 9 1 [7]) = some (9, 1, [7]) ∧ readEnvelope (writeRequest 255 22 []) = some (255, 22, [])) := by
  decide +kernel

theorem witness_RequestsTurnedAway_states :
    requestOf (.hire 9) = some (9, 4) ∧ refusedIn (.hire 9) (meterIn .hired cab).meter.state = true ∧
      portFree (meterIn .hired cab) = true ∧ (meterIn .hired cab).tariff.activity ≠ .swapping ∧
      requestOf (.stop 9) = some (9, 5) ∧ refusedIn (.stop 9) cab.meter.state = true ∧ portFree cab = true ∧
      ((5 : Nat) ≠ 2 ∧ (5 : Nat) ≠ 4) := by decide

def shift : Shift := ⟨3188, 100, 0, ⟨0, 0, 0, 0, 0, 0, 0, 0⟩, 0⟩

theorem witness_OnAndOffDuty :
    (portFree (meterIn .offDuty cab) = true ∧ (meterIn .offDuty cab).tariff.activity ≠ .swapping ∧
      (meterIn .offDuty cab).meter.state = .offDuty ∧ (meterIn .offDuty cab).tariff.activeVersion ≠ 0) ∧
    (portFree Part.reset = true ∧ Part.reset.tariff.activity ≠ .swapping ∧ Part.reset.meter.state = .offDuty ∧
      Part.reset.tariff.activeVersion = 0) ∧
    (portFree { cab with log := { cab.log with shift := some shift } } = true ∧ cab.meter.state = .vacant ∧
      offersDistinct cab) ∧
    (let p := withNotices 30 (acqIn .parked cab)
     (notices p).length + 2 = 32 ∧ p.ctl.acq = .parked ∧ portFree p = true) ∧
    (let p := { cab with log := { cab.log with shift := some shift, inFlight := some [.shiftNumber 3188] } }
     p.queue.entries.length ≤ 10 ∧ 9 ≤ (freeGranules p.queue.entries).length ∧ p.log.inFlight ≠ none ∧
      cab.log.inFlight = none) ∧
    (let p := { fullQueue (.status default) cab with log := { cab.log with shift := some shift } }
     12 ≤ p.queue.entries.length ∧ (∀ e ∈ p.queue.entries, kindOf e.body ≠ .shiftSummary) ∧ portFree p = true ∧
      (notices p).length + p.offers.length + 1 ≤ 32) := by
  unfold offersDistinct; decide +kernel

theorem witness_HireOpensTrip :
    (portFree cab = true ∧ cab.tariff.activity ≠ .swapping ∧ cab.meter.state = .vacant ∧
      offersDistinct (withOffers [offerOf 1 .presented 306, offerOf 2 .closed 280] cab)) ∧
    (let p := withOffers [offerOf 1 .presented 306, offerOf 2 .closed 280] (withNotices 29 cab)
     portFree p = true ∧ (notices p).length + p.offers.length + 1 = 32) ∧ noticeRoom (withNotices 31 cab) ∧
    (let p := withOffers [offerOf 5120 .awarded 306] { cab with meter := { cab.meter with state := .assigned, awarded := some 5120 } }
     portFree p = true ∧ p.tariff.activity ≠ .swapping ∧ p.meter.state = .assigned ∧ p.meter.awarded = some 5120 ∧
      findOffer 5120 p.offers = some (offerOf 5120 .awarded 306)) := by
  unfold offersDistinct noticeRoom; decide

def swapping : Part := storeIn .staged .swapping cab

theorem witness_SwapHoldsRequests :
    (swapping.tariff.activity = .swapping ∧ swapping.port.outstanding = none) ∧
    (swapping.tariff.activity = .swapping ∧ swapping.meter.held = none ∧ swapping.tariff.activeVersion ≠ 0) ∧
    (let p := waitingFor 41 2 { swapping with meter := { swapping.meter with state := .offDuty, held := some .onDuty } }
     p.tariff.activity = .swapping ∧ p.meter.held = some .onDuty ∧ p.port.outstanding = some ⟨41, 2, false⟩ ∧
      (responses p).length < 4 ∧ p.meter.state = .offDuty ∧ p.tariff.loadVersion = some 42 ∧ (42 : Nat) ≠ 0) ∧
    (let p := waitingFor 41 4 { swapping with meter := { swapping.meter with held := some .hire } }
     p.tariff.activity = .swapping ∧ p.meter.held = some .hire ∧ p.port.outstanding = some ⟨41, 4, false⟩ ∧
      (responses p).length < 4 ∧ p.meter.state = .vacant ∧ p.tariff.loadVersion = some 42) ∧
    (let p := waitingFor 41 4 (withOffers [offerOf 7 .awarded 306]
       { swapping with meter := { swapping.meter with state := .assigned, awarded := some 7, held := some .hire } })
     p.tariff.activity = .swapping ∧ p.meter.held = some .hire ∧ p.port.outstanding = some ⟨41, 4, false⟩ ∧
      (responses p).length < 4 ∧ p.meter.state = .assigned ∧ p.meter.awarded = some 7 ∧
      findOffer 7 p.offers = some (offerOf 7 .awarded 306) ∧ p.tariff.loadVersion = some 42) ∧
    (let p := storeIn .staged .swapping Part.reset
     p.tariff.activity = .swapping ∧ p.meter.held = none ∧ p.tariff.activeVersion = 0) := by decide

/-- A STOP while HIRED: a next state in PAYABLE, from a state with room for a STATUS and for notices. -/
theorem witness_MeterChangesAreHandedOn :
    let p := withTrip trip (meterIn .hired cab)
    (match exec (.stop 9) (run p) with
      | .next t => decide (t.part.meter.state = .payable)
      | .fault _ => false
      | .refused _ => false) = true ∧
      p.meter.state = .hired ∧ p.queue.entries.length < 12 ∧ 1 ≤ (freeGranules p.queue.entries).length ∧
      (notices p).length + p.offers.length + 2 ≤ 32 := by
  decide +kernel

theorem witness_StopAndResume :
    (portFree (meterIn .hired cab) = true ∧ (meterIn .hired cab).meter.state = .hired) ∧
    (portFree (meterIn .suspended cab) = true ∧ (meterIn .suspended cab).meter.state = .suspended) := by decide

theorem witness_CloseWritesRecord :
    (let p := withTrip trip (meterIn .payable cab)
     portFree p = true ∧ p.meter.state = .payable ∧ p.meter.trip = some trip ∧
      ({ p with log := { p.log with shift := some shift } } : Part).log.shift = some shift) ∧
    (let rs := [record 20429 .queued, record 20430 .undelivered]
     let p := withTrip trip (meterIn .payable { cab with log := { cab.log with records := rs } })
     let r := closingRecord trip p
     (rs ++ [r]).map (fun x => x.number) = [20429, 20430, trip.number] ∧
      ((rs ++ [r]).map (fun x => x.number)).Nodup ∧ p.queue.entries.length ≤ 9 ∧
      17 ≤ (freeGranules p.queue.entries).length ∧ (rs ++ [r])[1]? = some (record 20430 .undelivered) ∧
      ((rs ++ [r]).take 1).countP (fun x => decide (x.delivery = .undelivered)) +
        (rs ++ [r]).countP (fun x => decide (x.delivery = .queued)) = 1 ∧
      ((rs ++ [r]).take 2).countP (fun x => decide (x.delivery = .undelivered)) +
        (rs ++ [r]).countP (fun x => decide (x.delivery = .queued)) = 2) ∧
    (let p := withTrip trip (meterIn .payable (fullQueue (.status default) cab))
     portFree p = true ∧ 12 ≤ p.queue.entries.length ∧
      ∃ e ∈ p.queue.entries, kindOf e.body = .status ∧ e.st = .waiting) := by decide +kernel

theorem witness_ExtraAndJobCancel :
    (let p := withTrip trip (meterIn .hired cab)
     portFree p = true ∧ p.meter.state = .hired ∧ p.meter.trip = some trip ∧ findExtra (activeImage p) 2 = none ∧
      findExtra (activeImage p) 1 = some ⟨1, 200, 1⟩ ∧ extraCount 1 trip.extras ≠ 1 ∧
      extraCount 1 ({ trip with extras := [(1, 1)] } : Trip).extras = 1 ∧ noticeRoom p ∧
      portFree (withNotices 32 p) = true ∧ ¬ noticeRoom (withNotices 32 p)) ∧
    (let p := withOffers [offerOf 7 .awarded 306] { cab with meter := { cab.meter with state := .assigned, awarded := some 7 } }
     portFree p = true ∧ p.meter.state = .assigned ∧ p.meter.awarded = some 7 ∧
      findOffer 7 p.offers = some (offerOf 7 .awarded 306) ∧ (notices (withNotices 30 p)).length + 2 = 32) := by
  unfold noticeRoom; decide

theorem witness_Calibration :
    (portFree cab = true ∧ cab.meter.state ≠ .offDuty) ∧
    (portFree Part.reset = true ∧ Part.reset.meter.state = .offDuty ∧ (399 : Nat) < 400 ∧ 60000 < (60001 : Nat)) ∧
    (portFree Part.reset = true ∧ Part.reset.meter.state = .offDuty ∧ 400 ≤ (400 : Nat) ∧ (60000 : Nat) ≤ 60000) ∧
    (let p := waitingFor 9 10 { Part.reset with meter := { Part.reset.meter with calWrite := some 400 } }
     p.meter.calWrite = some 400 ∧ p.port.outstanding = some ⟨9, 10, false⟩ ∧ (responses p).length < 4) := by decide

theorem witness_PulsesAndSeconds :
    (let p := { cab with log := { cab.log with shift := some shift } }
     p.log.shift = some shift ∧ (p.meter.state = .vacant ∨ p.meter.state = .assigned)) ∧
    (let p := meterIn .hired { cab with log := { cab.log with shift := some shift } }
     p.log.shift = some shift ∧ p.meter.state ≠ .vacant ∧ p.meter.state ≠ .assigned) ∧
    (let p := { cab with meter := { cab.meter with count := 141 } }
     p.meter.k * 70 / 1000 < p.meter.count ∧ 140 = min p.meter.count (p.meter.k * 70 / 1000)) ∧
    (let p := meterIn .hired cab
     p.meter.state = .hired ∧ ({ p.meter with window := ⟨58, 0, none, none, 0⟩ } : Meter).window.seconds < 59 ∧
      59 ≤ ({ p.meter with window := ⟨59, 0, none, none, 0⟩ } : Meter).window.seconds) ∧
    cab.meter.state ≠ .hired ∧ cab.log.shift = none ∧ cab.meter.motion = .stopped ∧
    (withTrip trip cab).meter.trip = some trip := by decide

/-- The hired cab, charged for 50 seconds: a second of 30 pulses makes the 51st, and changes the charged fare when the
progress stands at 39,800,000. -/
def hiredCab : Part :=
  withTrip { trip with fare := { trip.fare with progress := 39800000 } } (meterIn .hired { cab with meter := { cab.meter with count := 30 } })

theorem witness_HiredSecondsAreCharged :
    (let t := { trip with fare := { trip.fare with progress := 39800000 } }
     hiredCab.meter.state = .hired ∧ hiredCab.meter.trip = some t ∧
      30 = min hiredCab.meter.count (hiredCab.meter.k * 70 / 1000) ∧
      71926 = (if 86399 ≤ hiredCab.clock.tod then 0 else hiredCab.clock.tod + 1) ∧
      ClockState.synced =
        (if hiredCab.clock.state = .synced ∧ 119 ≤ hiredCab.clock.silence then .free else hiredCab.clock.state) ∧
      1 = bandTariff (activeImage hiredCab) .synced hiredCab.zones.area hiredCab.clock.day 71926 ∧
      (∀ m ∈ hiredCab.msgs.inbox, m.held = false) ∧ (notices hiredCab).length + hiredCab.msgs.inbox.length < 32 ∧
      (chargeSecond (activeImage hiredCab) 1 1 2000 30 t.price t.fare).charged ≠ t.fare.charged ∧
      (chargeSecond (activeImage hiredCab) 1 1 2000 30 t.price trip.fare).charged = trip.fare.charged) ∧
    cab.meter.state ≠ .hired ∧
    (trip.fare.tariff = 1 ∧ trip.fare.tariff ≠ 2 ∧ (chargeDrops 30 trip.fare).usage.length < 6 ∧
      (chargeDrops 30 { trip.fare with usage := List.replicate 6 ⟨1, 1, 0, 0⟩ }).usage =
        List.replicate 5 ⟨1, 1, 0, 0⟩ ++ [⟨1, 1, 0, 0⟩]) := by decide +kernel

theorem witness_MomentsOfASecond :
    (let p := { cab with meter := { cab.meter with zeroRun := 2 } }
     min p.meter.count (p.meter.k * 70 / 1000) = 0 ∧ p.meter.zeroRun = 2) ∧
    (let p := withInbox [{ messageOf 610 .normal .ack .unread with held := true }]
       { cab with meter := { cab.meter with zeroRun := 2, motion := .moving } }
     p.meter.motion = .moving ∧ (∃ m ∈ p.msgs.inbox, m.held = true) ∧ (notices p).length + p.msgs.inbox.length < 32) ∧
    (let p := withTrip trip (meterIn .hired
       { cab with meter := { cab.meter with window := ⟨59, 1200, some (1090, 2045), some (1185, 2085), 2⟩ } })
     p.meter.state = .hired ∧ p.meter.window.seconds = 59 ∧ p.meter.trip = some trip ∧
      3 * ((1200 + 0) * 1000 / 2000) + 400 < 2 * (10 * (max 95 40 + min 95 40 / 2))) ∧
    (let p := { cab with zones := { cab.zones with timer := 59 } }
     p.zones.timer = 59) ∧
    (let p := { cab with clock := { cab.clock with silence := 119 } }
     p.clock.state = .synced ∧ p.clock.silence = 119) ∧
    (let a : PendingActivation := ⟨42, .timed 71926 1, false⟩
     let t := { (storeIn .staged .idle cab).tariff with activation := some a, lastTod := some 86399 }
     let p := { cab with tariff := t, clock := { cab.clock with tod := 71925 } }
     p.tariff.activation = some a ∧ a.due = false ∧ 71926 ≤ p.clock.tod + 1 ∧ p.clock.state ≠ .unset ∧
      ¬ p.clock.tod + 1 + 43200 < 86399 ∧ p.tariff.activity ≠ .swapping ∧ p.meter.state = .vacant) ∧
    (let p := { cab with tariff := { (storeIn .staged .idle cab).tariff with activation := some ⟨42, .now, true⟩ } }
     p.tariff.activity ≠ .swapping ∧ p.meter.state = .vacant ∧ p.tariff.activation = some ⟨42, .now, true⟩) ∧
    (cab.meter.zeroRun ≠ 2 ∧ cab.msgs.inbox = [] ∧ cab.meter.state ≠ .hired ∧ cab.zones.timer ≠ 59 ∧
      cab.clock.silence ≠ 119 ∧ cab.tariff.activation = none) := by decide +kernel

theorem witness_BandSelection :
    (let rows := image.bands.filter (fun r => r.area == 1 && r.days.contains 0)
     (∃ r ∈ rows, r.start ≤ 360 * 60 / 60) ∧ rows ≠ [] ∧ ∀ r ∈ rows, 359 * 60 / 60 < r.start) ∧
    image.bands.filter (fun r => r.area == 0 && r.days.contains 0) = [] ∧ tablesValid image = true := by decide +kernel

theorem witness_DropsAccountForProgress :
    (let f := openFare image 1 1 2000 .unpriced
     0 < f.threshold ∧ 0 < f.q ∧ f.metered ≤ 999999 ∧ (chargeDrops 30 f).progress < f.threshold ∧
      f.usage = [] ++ [⟨1, 1, 0, 0⟩]) ∧
    (let f := { openFare image 1 1 2000 .unpriced with progress := 39800000 }
     0 < f.threshold ∧ 0 < f.q ∧ f.metered ≤ 999999 ∧ f.threshold ≤ f.progress + max (30 * f.wp) f.ws) ∧
    tablesValid image = true ∧ definesTariff image 3 = true := by decide +kernel

theorem witness_ResolveTopmost :
    let inside (e : ZoneEntry) : Prop := e.xMin ≤ 1000 ∧ 1000 ≤ e.xMax ∧ e.yMin ≤ 2999 ∧ 2999 ≤ e.yMax
    (∀ e : ZoneEntry, inside e ↔ e.xMin ≤ 1000 ∧ 1000 ≤ e.xMax ∧ e.yMin ≤ 2999 ∧ 2999 ≤ e.yMax) ∧
    (∃ e, some e ∈ [some (⟨12, 1000, 1999, 2000, 2999, 0, 0, []⟩ : ZoneEntry)] ∧ inside e) ∧
    (∀ e, some e ∈ [some (⟨12, 1001, 1999, 2000, 2999, 0, 0, []⟩ : ZoneEntry)] → ¬ inside e) := by
  refine ⟨fun _ => Iff.rfl, ⟨⟨12, 1000, 1999, 2000, 2999, 0, 0, []⟩, by simp, by decide⟩, ?_⟩
  intro e h
  obtain rfl : e = _ := by simpa using h
  decide

theorem witness_PositionsAndZones :
    (portFree cab = true ∧ ((⟨65535, 65535, .coarse, 255⟩ : Fix).quality = .good ∨ (⟨65535, 65535, .coarse, 255⟩ : Fix).quality = .coarse) ∧
      (65535 ≤ 65535 ∧ 255 ≤ 255)) ∧
    (¬ ((⟨65536, 0, .good, 0⟩ : Fix).x ≤ 65535) ∧ (responses cab).length < 4) ∧
    ((⟨0, 0, .none, 0⟩ : Fix).quality = .none ∧ (⟨0, 0, .other, 0⟩ : Fix).quality = .other) ∧
    (framePasses toAll cab = true ∧ 1 ≤ [(default : ZoneEntry)].length ∧ (List.replicate 8 (default : ZoneEntry)).length ≤ 8 ∧
      63 + 0 < cab.zones.table.length ∧ cab.zones.stale = true) ∧
    8 < (List.replicate 9 (default : ZoneEntry)).length ∧
    ((meterIn .hired cab).meter.state = .hired ∧ portFree (meterIn .hired cab) = true) ∧
    (let p := { cab with zones := { cab.zones with table := [some ⟨250, 0, 9, 0, 9, 3, 3, [1]⟩], cand := some 250 } }
     portFree p = true ∧ p.zones.cand = some (resolve p.zones.table 9 9) ∧ resolve p.zones.table 9 9 ≠ p.zones.zone ∧
      p.meter.state = .vacant ∧ p.queue.entries.length < 12 ∧ 1 ≤ (freeGranules p.queue.entries).length) ∧
    (1 ≤ (250 : Nat) ∧ 250 < (251 : Nat) ∧ 3 < (4 : Nat) ∧
      storedZone ⟨1, 0, 0, 9, 9, 3, 3, [1, 2, 2, 251, 0, 250, 3, 4, 5, 6, 7]⟩ = some ⟨1, 0, 0, 9, 9, 3, 3, [2, 250, 3, 4, 5, 6]⟩ ∧
      storedZone ⟨251, 0, 0, 9, 9, 3, 3, []⟩ = none ∧ storedZone ⟨1, 1, 0, 9, 9, 3, 3, []⟩ = none) := by decide +kernel

def shortText (id : Nat) : TextFrame := ⟨id, some .urgent, some (.canned [0, 31]), List.replicate 160 'x'⟩
def fullStore : Part := withInbox ((List.range 24).map (fun i => messageOf (500 + i) .urgent .none .unread)) cab

theorem witness_TextsAreFiled :
    ((shortText 1).priority = some .urgent ∧ (shortText 1).form = some (.canned [0, 31]) ∧ (shortText 1).id ≠ 0 ∧
      1 ≤ (shortText 1).text.length ∧ (shortText 1).text.length ≤ 160 ∧ formOk (.canned [0, 31]) = true) ∧
    (framePasses toCab cab = true ∧ (∀ m ∈ cab.msgs.inbox, m.id ≠ 1) ∧ cab.msgs.inbox.length < 24 ∧ noticeRoom cab) ∧
    (framePasses toCab fullStore = true ∧ (∀ m ∈ fullStore.msgs.inbox, m.id ≠ 1) ∧ 24 ≤ fullStore.msgs.inbox.length ∧
      ∀ m ∈ fullStore.msgs.inbox, m.priority = .urgent ∧ m.state = .unread) ∧
    (let v := messageOf 520 .urgent .none .read
     let before := (List.range 11).map (fun i => messageOf (500 + i) .urgent .none .unread)
     let after := (List.range 12).map (fun i => messageOf (530 + i) .normal .none .unread)
     let p := withInbox (before ++ v :: after) cab
     let turn (m : Message) : Nat :=
       if m.state = .unread then (if m.priority = .normal then 2 else 3) else (if m.priority = .normal then 0 else 1)
     framePasses toCab p = true ∧ (∀ m ∈ p.msgs.inbox, m.id ≠ 1) ∧ 24 ≤ p.msgs.inbox.length ∧
      p.msgs.inbox = before ++ v :: after ∧ turn v < 3 ∧ (∀ m ∈ before, turn v < turn m) ∧ ∀ m ∈ after, turn v ≤ turn m) ∧
    (∃ m ∈ fullStore.msgs.inbox, m.id = (shortText 523).id) ∧ 160 < (List.replicate 161 'x').length := by
  unfold noticeRoom; decide +kernel

/-- A queue of 12 entries, all SENT but one WAITING of class ROUTINE: full for every class but EMERGENCY and URGENT; of class
URGENT: full for URGENT too. -/
theorem witness_ReadAndReply :
    (let p := withInbox [messageOf 611 .urgent .yesNo .unread] cab
     portFree p = true ∧ findMessage 611 p.msgs.inbox = some (messageOf 611 .urgent .yesNo .unread) ∧ queueRoom p) ∧
    (let p := withInbox [messageOf 611 .urgent .yesNo .read] cab
     portFree p = true ∧ findMessage 611 p.msgs.inbox = some (messageOf 611 .urgent .yesNo .read) ∧
      (messageOf 611 .urgent .yesNo .read).state ≠ .unread ∧ offersAnswer .yesNo .yes = true ∧
      offersAnswer .yesNo .ack = false ∧ queueRoom p ∧ ∀ m ∈ p.msgs.inbox, m.id ≠ 610) ∧
    (let p := fullQueue (.status default) (withInbox [messageOf 611 .urgent .yesNo .unread, messageOf 612 .normal .ack .read] cab)
     portFree p = true ∧ findMessage 611 p.msgs.inbox = some (messageOf 611 .urgent .yesNo .unread) ∧
      (messageOf 611 .urgent .yesNo .unread).priority = .urgent ∧ queueFull .routine p ∧ noticeRoom p ∧
      findMessage 612 p.msgs.inbox = some (messageOf 612 .normal .ack .read) ∧ offersAnswer .ack .ack = true) := by
  unfold queueRoom queueFull noticeRoom; decide +kernel

theorem witness_OutboundTexts :
    (let p := { cab with msgs := ⟨[], List.replicate 31 [] ++ [['a']], 86, .stopped⟩ }
     portFree p = true ∧ p.msgs.canned[31]? = some ['a'] ∧ ['a'] ≠ [] ∧ p.msgs.canned[0]? = some [] ∧ queueRoom p ∧
      p.msgs.motion = .stopped) ∧
    (1 ≤ ['x'].length ∧ (List.replicate 100 'x').length ≤ 100 ∧ 100 < (List.replicate 101 'x').length ∧ 31 < (32 : Nat)) ∧
    (let p := { cab with msgs := { cab.msgs with motion := .moving } }
     portFree p = true ∧ p.msgs.motion = .moving) ∧
    (let p := fullQueue (.status default) { cab with msgs := ⟨[], List.replicate 31 [] ++ [['a']], 65535, .stopped⟩ }
     portFree p = true ∧ p.msgs.canned[31]? = some ['a'] ∧ p.msgs.motion = .stopped ∧ queueFull .routine p ∧ noticeRoom p) := by
  unfold queueRoom queueFull noticeRoom; decide +kernel

def directOffer (id : Nat) : OfferFrame := ⟨id, .direct, [], false, 12, 1, .booked, .cap 999999, List.replicate 40 'n', 301⟩
def eightOffers (st : OfferState) : List Offer :=
  [offerOf 1 .presented 306, offerOf 2 .bidSent 306, offerOf 3 .presented 306, offerOf 4 st 306, offerOf 5 .presented 306,
    offerOf 6 .presented 306, offerOf 7 .presented 306, offerOf 8 .presented 306]

theorem witness_OffersArePresented :
    (framePasses toCab cab = true ∧ offerOk toCab (directOffer 9) = true ∧ (∀ o ∈ cab.offers, o.id ≠ 9) ∧
      eligible (directOffer 9) cab = true ∧ cab.offers.length < 8 ∧ noticeRoom cab) ∧
    (let p := withOffers (eightOffers .closed) cab
     (∀ o ∈ p.offers, o.id ≠ 9) ∧ eligible (directOffer 9) p = true ∧ 8 ≤ p.offers.length ∧
      p.offers = (eightOffers .closed).take 3 ++ offerOf 4 .closed 306 :: (eightOffers .closed).drop 4 ∧
      ∀ o ∈ (eightOffers .closed).take 3, o.state ≠ .closed) ∧
    (let p := withOffers (eightOffers .presented) cab
     8 ≤ p.offers.length ∧ (∀ o ∈ p.offers, o.state ≠ .closed) ∧ eligible (directOffer 9) p = true ∧
      findOffer (directOffer 8).id p.offers = some (offerOf 8 .presented 306)) ∧
    eligible (directOffer 9) (meterIn .hired cab) = false ∧ offerOk toAll (directOffer 9) = false ∧
    (let p := withOffers [offerOf 9 .presented 300] cab
     findOffer (directOffer 9).id p.offers = some (offerOf 9 .presented 300) ∧ cycleLater (directOffer 9).deadline 300 = true ∧
      cycleLater (directOffer 9).deadline 301 = false ∧ noticeRoom p) ∧
    (4095 : Nat) < 4096 := by
  unfold noticeRoom; decide +kernel

theorem witness_AcceptPlacesBid :
    (let p := withOffers [offerOf 7 .presented 301] cab
     portFree p = true ∧ findOffer 7 p.offers = some (offerOf 7 .presented 301) ∧ cyclePassed p.ctl.cycle 301 = false ∧
      (∀ x ∈ p.offers, x.id ≠ 7 → x.state ≠ .accepted ∧ x.state ≠ .bidSent) ∧ queueRoom p ∧ findOffer 8 p.offers = none ∧
      (notices (withNotices 30 p)).length + 2 = 32 ∧ noticeRoom (withNotices 31 p)) ∧
    (let p := withOffers [offerOf 7 .presented 300, offerOf 8 .bidSent 290] cab
     portFree p = true ∧ findOffer 7 p.offers = some (offerOf 7 .presented 300) ∧ cyclePassed p.ctl.cycle 300 = true ∧
      (∀ x ∈ p.offers, x.id ≠ 8 → x.state ≠ .accepted ∧ x.state ≠ .bidSent) ∧
      findOffer 8 p.offers = some (offerOf 8 .bidSent 290)) ∧
    (let p := withOffers [offerOf 7 .presented 301, offerOf 8 .accepted 306] cab
     findOffer 7 p.offers = some (offerOf 7 .presented 301) ∧
      ∃ x ∈ p.offers, x.id ≠ 7 ∧ (x.state = .accepted ∨ x.state = .bidSent)) ∧
    (let p := fullQueue (.awardDecline 3 0 .hired) (withOffers [offerOf 7 .presented 301] cab)
     portFree p = true ∧ findOffer 7 p.offers = some (offerOf 7 .presented 301) ∧ queueFull .urgent p) := by
  unfold queueRoom queueFull noticeRoom; decide +kernel

theorem witness_DeclineRule :
    (let p := withOffers [offerOf 7 .presented 306, offerOf 8 .awarded 306, offerOf 9 .closed 306] cab
     portFree p = true ∧ noticeRoom p ∧ findOffer 7 p.offers = some (offerOf 7 .presented 306) ∧
      findOffer 8 p.offers = some (offerOf 8 .awarded 306) ∧ findOffer 9 p.offers = some (offerOf 9 .closed 306) ∧
      findOffer 10 p.offers = none) := by
  unfold noticeRoom; decide

theorem witness_OffersCloseInTime :
    (let p := { withOffers [offerOf 7 .presented 300, offerOf 8 .accepted 301] cab with sig := ⟨true, true, true, true⟩ }
     p.sig.deadlines = true ∧ p.sig.awardWaits = true ∧ offersDistinct p ∧
      (notices (withNotices 30 p)).length + p.offers.length = 32) ∧
    (cab.sig.deadlines = false ∧ cab.sig.awardWaits = false) ∧
    (let p := withOffers [offerOf 7 .bidSent 306, offerOf 8 .closed 306] cab
     framePasses toAll p = true ∧ findOffer 7 p.offers = some (offerOf 7 .bidSent 306) ∧
      findOffer 8 p.offers = some (offerOf 8 .closed 306) ∧ ∀ o ∈ p.offers, o.id ≠ 9) ∧
    (let p := withOffers [offerOf 7 .awarded 306] { cab with meter := { cab.meter with state := .assigned, awarded := some 7 } }
     findOffer 7 p.offers = some (offerOf 7 .awarded 306) ∧ p.meter.state = .assigned ∧ noticeRoom p) := by
  unfold offersDistinct noticeRoom; decide +kernel

theorem witness_ClosedOffersGiveUpBids :
    let bid := { entryOf (.bid 7 0 false 0) (some 7) .waiting with granules := [0] }
    let sent := { entryOf (.bid 8 0 false 0) (some 8) .sent with granules := [1], tag := 10 }
    let p := { withOffers [offerOf 7 .accepted 300, offerOf 8 .accepted 300, offerOf 9 .presented 300] cab with
      queue := { cab.queue with entries := [bid, sent] }, sig := ⟨true, true, true, true⟩,
      log := { cab.log with shift := some shift, summary := some (default, .queued) } }
    (framePasses toAll p = true ∧ findOffer 7 p.offers = some (offerOf 7 .accepted 300) ∧
      findOffer 9 p.offers = some (offerOf 9 .presented 300)) ∧
    (p.sig.deadlines = true ∧ offersDistinct p ∧ cyclePassed p.ctl.cycle 300 = true ∧ bidEntry 7 p = some bid ∧
      bid.st ≠ .sent ∧ bidEntry 8 p = some sent ∧ sent.st = .sent ∧ cyclePassed p.ctl.cycle 301 = false) ∧
    (p.port.outstanding = none ∧ p.meter.state = .vacant ∧ p.tariff.activity ≠ .swapping ∧ tagsDistinct p) ∧
    (framePasses toCab p = true ∧ awardPrice ⟨7, 880041, 12, some (.cap 1500), []⟩ = some (.cap 1500)) ∧
    (p.log.shift = some shift ∧ p.log.summary = some (default, .queued)) := by
  unfold offersDistinct tagsDistinct; decide +kernel

def award (id : Nat) : AwardFrame := ⟨id, 880041, 12, some (.cap 1500), []⟩

theorem witness_AwardsAssignOrAreDeclined :
    (let p := withOffers [offerOf 7 .bidSent 306, offerOf 8 .presented 306] cab
     framePasses toCab p = true ∧ awardPrice (award 7) = some (.cap 1500) ∧ p.meter.state = .vacant ∧ offersDistinct p ∧
      (∃ o ∈ p.offers, o.id = 7) ∧ p.offers.length < 8) ∧
    (let p := withOffers [offerOf 7 .bidSent 306] (meterIn .hired cab)
     framePasses toCab p = true ∧ p.meter.state ≠ .vacant ∧ (∀ o ∈ p.offers, o.id = 7 → o.state ≠ .awarded) ∧ queueRoom p) ∧
    (let p := withOffers [offerOf 7 .awarded 306] (meterIn .assigned cab)
     p.meter.state ≠ .vacant ∧ ∃ o ∈ p.offers, o.id = 7 ∧ o.state = .awarded) ∧
    awardPrice { award 0 with price := none } = none ∧
    (let p := withOffers (eightOffers .closed) cab
     framePasses toCab p = true ∧ awardPrice (award 9) = some (.cap 1500) ∧ p.meter.state = .vacant ∧ offersDistinct p ∧
      (∀ o ∈ p.offers, o.id ≠ 9 ∧ o.state ≠ .awarded) ∧ 8 ≤ p.offers.length) ∧
    (let p := withOffers (eightOffers .closed) (meterIn .hired cab)
     framePasses toCab p = true ∧ p.meter.state ≠ .vacant ∧ (∀ o ∈ p.offers, o.id ≠ 9) ∧ queueRoom p ∧
      8 ≤ p.offers.length ∧ p.offers = (eightOffers .closed).take 3 ++ offerOf 4 .closed 306 :: (eightOffers .closed).drop 4 ∧
      (∀ o ∈ (eightOffers .closed).take 3, o.state ≠ .closed) ∧
      queueFull .urgent (fullQueue (.awardDecline 3 0 .hired) p)) ∧
    (let p := withOffers (eightOffers .presented) (meterIn .hired cab)
     8 ≤ p.offers.length ∧ ∀ x ∈ p.offers, x.state ≠ .closed) ∧
    (withOffers [offerOf 7 .bidSent 306] cab).offers.length < 8 ∧
    (let p := withOffers (eightOffers .closed) cab
     (notices p).length + p.offers.length + 2 ≤ 32 ∧ noticeRoom p ∧ openOffer (offerOf 7 .bidSent 306) = true) ∧
    { award 7 with note := ['n'] }.note ≠ [] := by
  unfold offersDistinct queueRoom queueFull noticeRoom; decide +kernel

theorem witness_TariffLoading :
    (framePasses toAll cab = true ∧ cab.tariff.activity ≠ .swapping ∧ 1 ≤ (1 : Nat) ∧ (65535 : Nat) ≤ 65535 ∧ (32 : Nat) ≤ 32) ∧
    (storeIn .clearing .clearing cab).tariff.activity = .clearing ∧
    (let p := { cab with tariff := { (storeIn .loading .idle cab).tariff with missing := [1] } }
     p.tariff.staging = .loading ∧ p.tariff.activity = .idle ∧ p.tariff.buffer = none ∧ p.tariff.loadVersion = some 42 ∧
      p.tariff.pageCount = some 2 ∧ 1 < (2 : Nat) ∧ 1 ∈ p.tariff.missing) ∧
    (let p := { cab with tariff := { (storeIn .loading .writing cab).tariff with buffer := some (1, [7]), missing := [1] } }
     p.tariff.activity = .writing ∧ p.tariff.buffer = some (1, [7]) ∧ 1 < (stagingBank p.tariff).pages.length) ∧
    ((0 : Nat) = 0 ∧ 65535 < (65536 : Nat) ∧ 32 < (33 : Nat)) ∧
    ((storeIn .staged .idle cab).tariff.staging ≠ .loading ∧ (storeIn .loading .idle cab).tariff.loadVersion ≠ some 41 ∧
      (storeIn .loading .idle cab).tariff.pageCount = some 2 ∧ (2 : Nat) ≤ 2 ∧
      (storeIn .loading .writing cab).tariff.activity ≠ .idle) ∧
    (let p := { cab with tariff := { (storeIn .loading .idle cab).tariff with
       missing := [0], bank1 := { Bank.blank with pages := [none, some [7]] } } }
     framePasses toAll p = true ∧ p.tariff.staging = .loading ∧ p.tariff.activity = .idle ∧ p.tariff.buffer = none ∧
      p.tariff.loadVersion = some 42 ∧ p.tariff.pageCount = some 2 ∧ 1 < (2 : Nat) ∧ 1 ∉ p.tariff.missing ∧
      (stagingBank p.tariff).pages.getD 1 none = some [7] ∧ (stagingBank p.tariff).pages.getD 1 none ≠ some [8]) ∧
    (imageValid 41 5 (crc16 [7]) [7] image = true ∧ imageValid 42 5 (crc16 [7]) [7] image = false) := by
  decide +kernel

theorem witness_ActivationAndAbandon :
    (let p := storeIn .staged .idle cab
     framePasses toAll p = true ∧ p.tariff.activity ≠ .swapping ∧ p.tariff.staging = .staged ∧
      p.tariff.loadVersion = some 42 ∧ p.clock.tod < 86399 ∧ (6 : Nat) ≤ 6 ∧ p.tariff.staging ≠ .empty) ∧
    (framePasses toAll cab = true ∧ cab.tariff.activity ≠ .swapping ∧ cab.tariff.staging ≠ .staged) ∧
    86399 < (86400 : Nat) := by decide +kernel

theorem witness_SwapIgnoresFrames :
    swapping.tariff.activity = .swapping ∧ portFree swapping = true ∧ fromBase (.fleetRestart toAll) = true ∧
      fromBase (.marker (frameOf 301) 0) = true ∧ fromBase (.setIdentity toAll 0 ⟨6, 1, 0⟩) = true ∧
      framePasses toAll swapping = true ∧ queueRoom swapping := by
  unfold queueRoom; decide +kernel

/-- A LOCKED cab whose window counts 63 intervals since cycle 236. -/
def windowed : Part := { cab with clock := { cab.clock with window := some ⟨1000, 300, 63, 1000⟩ } }

theorem witness_TrimFollowsTheWindow :
    (trimCompletes (frameOf 301) windowed = true ∧ heardMarker (frameOf 301) windowed = some (markerOf 301 [] [] []) ∧
      windowed.clock.window = some ⟨1000, 300, 63, 1000⟩ ∧
      roundHalfAway (((64004200 : Nat) : Int) - (1000 : Nat) - 64000000) 64 = 50) ∧
    (heardMarker (writeMarker { markerOf 301 [] [] [] with tod := 86400 }) cab = some { markerOf 301 [] [] [] with tod := 86400 } ∧
      86399 < (86400 : Nat)) ∧
    (heardMarker (frameOf 301) cab = some (markerOf 301 [] [] []) ∧ cab.clock.window = none ∧
      1 = (71926 + 86400 - cab.clock.tod) % 86400) ∧
    (let p := { cab with clock := { cab.clock with window := some ⟨1000, 300, 62, 1000⟩ } }
     heardMarker (frameOf 301) p = some (markerOf 301 [] [] []) ∧ 301 = (p.ctl.cycle + 1) % 4096 ∧
      p.mgmt.params.len = 1000 ∧ (62 : Nat) < 63 ∧ heardMarker (frameOf 302) p = some (markerOf 302 [] [] []) ∧
      302 ≠ (p.ctl.cycle + 1) % 4096) ∧
    trimCompletes (frameOf 302) windowed = false ∧ 0 < (2 : Nat) := by decide +kernel

theorem witness_NonvolatileWritesComplete :
    (({ cab with clock := { cab.clock with trimWrite := some (-200) } } : Part).clock.trimWrite = some (-200)) ∧
    (({ cab with log := { cab.log with inFlight := some [.shiftNumber 1], waiting := [.shiftNumber 2] } } : Part).log.inFlight =
      some [.shiftNumber 1]) ∧
    (let p := { cab with log := { cab.log with waiting := [.shiftNumber 2] } }
     p.log.waiting ≠ [] ∧ p.log.inFlight = none) ∧
    (let p := { cab with log := { cab.log with inFlight := some [.shiftNumber 1], waiting := [.shiftNumber 2] } }
     p.log.waiting ≠ [] ∧ p.log.inFlight ≠ none) := by decide

theorem witness_MarkersByState :
    (signalsTaken cab ∧ (notices (withNotices 30 cab)).length + 2 = 32 ∧
      heardMarker (frameOf 301) (withNotices 30 cab) = some (markerOf 301 [] [] [])) ∧
    (heardMarker (frameOf 301) cab = some (markerOf 301 [] [] []) ∧ 301 = (cab.ctl.cycle + 1) % 4096) ∧
    heardMarker (frameOf 0) (atCycle 4095 cab) = some (markerOf 0 [] [] []) ∧
    heardMarker (frameOf 301) (acqIn .search cab) = some (markerOf 301 [] [] []) ∧
    (let p := { acqIn .acquire cab with ctl := { (acqIn .acquire cab).ctl with inSeq := 2 } }
     heardMarker (frameOf 301) p = some (markerOf 301 [] [] []) ∧ 2 ≤ p.ctl.inSeq) ∧
    (let p := acqIn .parked (atCycle 302 cab)
     let frame := writeMarker (markerOf 303 [] [] [1207])
     heardMarker frame p = some (markerOf 303 [] [] [1207]) ∧ signalsTaken p ∧
      (markerOf 303 [] [] [1207]).pages.contains p.mgmt.identity.addr = true) := by
  unfold signalsTaken; decide +kernel

/-- A cab off duty for 300 s with the ignition off, whose queue holds one ROUTINE and one BULK entry. -/
def idleCab : Part :=
  let p := meterIn .offDuty { cab with ctl := { cab.ctl with offTime := 300, pageHold := 1 }, lines := ⟨false, false, false⟩ }
  { p with
    queue :=
      { p.queue with
        entries := [{ entryOf (.status default) none .waiting with counter := 1, uid := 1 },
          { entryOf (.trip default) (some 1) .waiting with tag := 10, counter := 0, uid := 2 }] } }

theorem witness_MarkersSchedule :
    (idleCab.ctl.acq = .locked ∧ heardMarker (frameOf 301) idleCab = some (markerOf 301 [] [] []) ∧
      301 = (idleCab.ctl.cycle + 1) % 4096 ∧ signalsTaken idleCab ∧ (∀ e ∈ idleCab.queue.entries, e.st = .waiting) ∧
      idleCab.lines.ignition = false ∧ 300 ≤ idleCab.ctl.offTime ∧ idleCab.meter.state = .offDuty ∧
      idleCab.emg.state = .idle ∧ (∀ e ∈ idleCab.queue.entries, isLowClass (classOf (kindOf e.body)) = true) ∧
      (markerOf 301 [] [] []).pages.contains 1207 = false ∧ idleCab.ctl.pageHold ≤ 1) ∧
    (let p := { idleCab with lines := ⟨true, false, false⟩ }
     let e := { entryOf (.trip default) (some 1) .waiting with tag := 10, counter := 0, uid := 2 }
     let eligible (e : Entry) (k : Nat) : Bool :=
       decide (k < 4) && (!isLowClass (classOf (kindOf e.body)) ||
         (decide (k ≠ 0) && !false && decide (p.emg.state ≠ .alert)))
     let slots (e : Entry) (n : Nat) : Nat := ((List.range n).filter (eligible e)).length
     ¬ p.lines.ignition = false ∧ p.queue.entries[1]? = some e ∧ eligible e 1 = true ∧ e.counter ≤ slots e 1 ∧
      (∀ x ∈ p.queue.entries, ∀ j, j < 1 → ¬ (eligible x j = true ∧ x.counter ≤ slots x j)) ∧
      ∀ (j : Nat) (x : Entry), j < 1 → p.queue.entries[j]? = some x → ¬ (eligible x 1 = true ∧ x.counter ≤ slots x 1)) := by
  unfold signalsTaken
  refine ⟨by decide +kernel, by decide, rfl, by decide, by decide, by decide, ?_⟩
  rintro j x hj hx
  obtain rfl : j = 0 := by omega
  obtain rfl : x = _ := (Option.some.inj hx).symm
  decide

/-- A RESERVING entry of 40 bytes, its wait at 6, before a WAITING one. -/
def reserving : Part :=
  { cab with
    queue :=
      { cab.queue with
        entries := [{ entryOf (.status default) none .reserving with size := 40, grantWait := 6, uid := 1 },
          { entryOf (.trip default) (some 1) .waiting with tag := 10, granules := [2], counter := 0, uid := 2 }] } }

theorem witness_MarkersSchedule_reserving :
    let granting := markerOf 301 [] [⟨1207, 9, 4, 2⟩] []
    let fits (e : Entry) (g : Grant) : Bool :=
      decide (g.addr = 1207) && decide (g.tag = e.tag) && decide (g.count = (e.size + 31) / 32) &&
        decide (granting.nOpen ≤ g.first) && decide (g.first + g.count ≤ 16)
    reserving.ctl.acq = .locked ∧ heardMarker (writeMarker granting) reserving = some granting ∧
    heardMarker (frameOf 301) reserving = some (markerOf 301 [] [] []) ∧ signalsTaken reserving ∧ tagsDistinct reserving ∧
    (∀ e ∈ reserving.queue.entries, e.st ≠ .sent) ∧
    (∀ e ∈ reserving.queue.entries, e.st = .reserving → e.grantWait < 7 ∧ granting.grants.any (fits e) = true) ∧
    (∃ e ∈ reserving.queue.entries, e.st = .sent ∨ e.st = .reserving) := by
  unfold signalsTaken tagsDistinct; decide +kernel

/-- A parked cab whose next cycle is a listening time, with 7 of them missed. -/
def silent : Part := { acqIn .parked (atCycle 302 cab) with ctl := { (acqIn .parked (atCycle 302 cab)).ctl with missed := 7 } }

theorem witness_MissedMarkersByState :
    (let p := { acqIn .holdover cab with ctl := { (acqIn .holdover cab).ctl with missed := 7 } }
     p.ctl.acq = .holdover ∧ 7 ≤ p.ctl.missed) ∧
    ((acqIn .holdover cab).ctl.acq = .holdover ∧ (acqIn .holdover cab).ctl.missed < 7) ∧
    (silent.ctl.acq = .parked ∧ signalsTaken silent ∧ (silent.ctl.cycle + 1) % 4096 % 8 = silent.mgmt.identity.addr % 8 ∧
      7 ≤ silent.ctl.missed) ∧
    (let p := acqIn .parked cab
     p.ctl.acq = .parked ∧ signalsTaken p ∧ ¬ (p.ctl.cycle + 1) % 4096 % 8 = p.mgmt.identity.addr % 8) ∧
    (signalsTaken (withNotices 31 cab) ∧ noticeRoom (withNotices 31 cab)) := by
  unfold signalsTaken noticeRoom; decide

def sentText : Entry := { entryOf (.text 305 none ['a']) (some 305) .sent with ackWindow := 1, attempts := 3 }
def waitingGrant : Entry := { entryOf (.trip default) (some 20417) .reserving with grantWait := 7, attempts := 7 }
def sentBeacon : Entry := { entryOf beacon none .sent with ackWindow := 1 }

theorem witness_AttemptsSettle :
    (let p := withEntry sentText cab
     p.ctl.acq = .locked ∧ signalsTaken p ∧ p.queue.entries = [sentText] ∧ sentText.st = .sent ∧ sentText.ackWindow ≤ 1 ∧
      sentText.mark = none ∧ p.queue.hold = none ∧ attemptLimit p.mgmt.params (kindOf sentText.body) = some 4 ∧
      sentText.attempts < 4 ∧ (4 : Nat) ≤ ({ sentText with attempts := 4 } : Entry).attempts) ∧
    (let p := withEntry waitingGrant (acqIn .holdover cab)
     grantWaitEnds .missed p = true ∧ signalsTaken p ∧ p.queue.entries = [waitingGrant] ∧ waitingGrant.mark = none ∧
      p.queue.hold = none ∧ attemptLimit p.mgmt.params (kindOf waitingGrant.body) = some 8 ∧ waitingGrant.attempts < 8 ∧
      grantWaitEnds (.marker (frameOf 301) 0) (withEntry waitingGrant cab) = true) ∧
    (let p := { withEntry sentBeacon cab with queue := { (withEntry sentBeacon cab).queue with hold := some beacon } }
     holdResolves .missed p = true ∧ holdResolves (.marker (frameOf 301) 0) p = true ∧ signalsTaken p ∧
      p.queue.entries = [sentBeacon] ∧ sentBeacon.mark = none ∧ p.queue.hold = some beacon ∧
      classOf (kindOf beacon) = .emergency) ∧
    (let p := withEntry sentText cab
     let m := markerOf 301 [(1207, 9)] [] []
     heardMarker (writeMarker m) p = some m ∧ m.cycle = (p.ctl.cycle + 1) % 4096 ∧ (p.mgmt.identity.addr, sentText.tag) ∈ m.acks ∧
      3 ≤ sentText.attempts ∧ sentText.lastCause = some .noAck ∧
      (p.mgmt.identity.addr, sentText.tag) ∉ (markerOf 301 [(1207, 8)] [] []).acks ∧
      heardMarker (frameOf 301) p = some (markerOf 301 [] [] [])) ∧
    (let e := { entryOf (.trip default) (some 20417) .reserving with size := 116, grantWait := 6 }
     let m := markerOf 301 [] [⟨1207, 9, 2, 4⟩, ⟨1207, 9, 4, 4⟩] []
     heardMarker (writeMarker m) (withEntry e cab) = some m ∧ m.grants = [⟨1207, 9, 2, 4⟩] ++ ⟨1207, 9, 4, 4⟩ :: [] ∧
      (1207 = cab.mgmt.identity.addr ∧ 9 = e.tag ∧ 4 = (e.size + 31) / 32 ∧ m.nOpen ≤ 4 ∧ 4 + 4 ≤ 16) ∧
      ¬ m.nOpen ≤ 2 ∧ e.grantWait < 7) ∧
    1 < (entryOf (.text 305 none ['a']) (some 305) .sent).ackWindow ∧
    ackWindowEnds cab = false ∧ grantWaitEnds .missed cab = false ∧ holdResolves .missed cab = false := by
  unfold signalsTaken; decide +kernel

/-- An out-of-sequence marker at a cab with an entry in flight, which answers a next state. -/
theorem witness_AttemptsSettle_reacquires :
    let p := withEntry sentText cab
    (heardMarker (frameOf 302) p = some (markerOf 302 [] [] []) ∧ (302 : Nat) ≠ (p.ctl.cycle + 1) % 4096 ∧ p.ctl.acq = .locked ∧
      waitingGrant.st ≠ .waiting ∧ sentText.st ≠ .waiting) ∧ tagsDistinct p ∧
    ∃ t, exec (.marker (frameOf 302) 0) (run p) = .next t := by
  refine ⟨by decide +kernel, ?_, ⟨_, rfl⟩⟩
  unfold tagsDistinct; decide

/-- Two WAITING entries: a STATUS and, of the lowest class, a TRIP. -/
def twoWaiting (p : Part) : Part :=
  { p with
    queue :=
      { p.queue with
        entries := [{ entryOf (.status default) none .waiting with granules := [0] },
          { entryOf (.trip default) (some 1) .waiting with tag := 10, granules := (List.range 127).map (· + 1) }] } }

/-- With 127 granules in the lower entry of two, a trip fits once that entry is evicted; in the full queue nothing does. -/
theorem witness_QueueAdmission :
    (let p := twoWaiting cab
     let b := Body.awardDecline 3 0 .hired
     tagsDistinct p ∧
      (p.queue.entries.filter (fun e => decide (e.st = .waiting) &&
          decide (classRank (classOf (kindOf b)) < classRank (classOf (kindOf e.body))))).reverse = p.queue.entries.reverse ∧
      ¬ (granuleCount (.trip default) ≤ (freeGranules p.queue.entries).length) ∧
      granuleCount (.trip default) ≤ (freeGranules (p.queue.entries.filter (fun e => e.tag != 10))).length ∧
      p.queue.store.length = 128) ∧
    (let p := twoWaiting cab
     p.queue.entries.find? (fun x => decide (kindOf x.body = .status) && decide (x.st = .waiting)) =
      some { entryOf (.status default) none .waiting with granules := [0] }) ∧
    (∀ x ∈ cab.queue.entries, kindOf x.body = .status → x.st ≠ .waiting) ∧
    (let p := fullQueue (.trip default) cab
     (p.queue.entries.filter (fun e => decide (e.st = .waiting) && decide (3 < classRank (classOf (kindOf e.body))))).reverse = [] ∧
      ¬ p.queue.entries.length < 12) ∧
    (let e := entryOf beacon none .waiting
     classOf (kindOf beacon) = .emergency ∧
      (withEntry e cab).queue.entries.find?
        (fun x => decide (classOf (kindOf x.body) = .emergency) && decide (x.st ≠ .sent)) = some e) ∧
    (∃ x ∈ (withEntry sentBeacon cab).queue.entries, classOf (kindOf x.body) = .emergency ∧ x.st = .sent) := by
  unfold tagsDistinct; decide +kernel

theorem witness_LifetimesExpire :
    (let e := { entryOf (.text 305 none ['a']) (some 305) .waiting with attempts := 0 }
     let p := { withEntry e cab with sig := ⟨true, false, false, false⟩ }
     p.sig.queue = true ∧ p.queue.entries = [e] ∧ e.expiry = some 300 ∧ cyclePassed p.ctl.cycle 300 = true ∧
      e.st = .waiting ∧ e.attempts = 0) ∧
    (let e := entryOf (.text 305 none ['a']) (some 305) .waiting
     e.st = .waiting ∧ e.attempts ≠ 0 ∧ e.lastCause = some .noAck) ∧
    (let e := entryOf (.text 305 none ['a']) (some 305) .granted
     e.st = .reserving ∨ e.st = .granted) ∧
    (let e := entryOf (.text 305 none ['a']) (some 305) .sent
     e.st = .sent ∧ e.mark ≠ some .withdrawn) ∧
    cab.sig.queue = false := by decide

theorem witness_SlotsReleaseBursts :
    (let p := { withEntry (entryOf (.text 305 none ['a']) (some 305) .waiting) cab with ctl := { cab.ctl with schedule := [⟨1, 78, false⟩] } }
     p.ctl.acq = .locked ∧ p.ctl.schedule.find? (fun v => v.slot == 1) = some ⟨1, 78, false⟩ ∧
      ∀ e ∈ p.queue.entries, e.uid ≠ 78) ∧
    (let e := { entryOf (.text 305 none ['a']) (some 305) .waiting with size := 32 }
     let p := { withEntry e cab with ctl := { cab.ctl with schedule := [⟨1, 77, false⟩] } }
     p.ctl.acq = .locked ∧ p.ctl.schedule.find? (fun v => v.slot == 1) = some ⟨1, 77, false⟩ ∧
      p.queue.entries.find? (fun x => x.uid == 77) = some e ∧ e.st = .waiting ∧ 1 ≤ e.size ∧ e.size ≤ 32 ∧
      ¬ (isLowClass (classOf (kindOf e.body)) = true ∧ p.emg.state = .alert) ∧ (∀ v ∈ p.ctl.schedule, v.slot ≠ 2)) ∧
    (let e := { entryOf (.trip default) (some 20417) .waiting with size := 33 }
     let p := { withEntry e cab with ctl := { cab.ctl with schedule := [⟨1, 77, false⟩] } }
     p.queue.entries.find? (fun x => x.uid == 77) = some e ∧ e.st = .waiting ∧ 32 < e.size) ∧
    (let e := { entryOf (.trip default) (some 20417) .granted with size := 116 }
     let p := { withEntry e cab with ctl := { cab.ctl with schedule := [⟨10, 77, true⟩, ⟨11, 77, true⟩] } }
     p.ctl.schedule.find? (fun v => v.slot == 10) = some ⟨10, 77, true⟩ ∧
      p.queue.entries.find? (fun x => x.uid == 77) = some e ∧ e.st = .granted) ∧
    (let e := entryOf (.text 305 none ['a']) (some 305) .sent
     let p := { withEntry e cab with ctl := { cab.ctl with schedule := [⟨1, 77, false⟩] } }
     p.queue.entries.find? (fun x => x.uid == 77) = some e ∧ e.st ≠ .waiting) ∧
    (let e := entryOf (.text 305 none ['a']) (some 305) .waiting
     let p := alarmIn .alert { withEntry e cab with ctl := { cab.ctl with schedule := [⟨1, 77, false⟩] } }
     p.ctl.acq = .locked ∧ isLowClass (classOf (kindOf e.body)) = true ∧ p.emg.state = .alert) ∧
    (let e := { entryOf (.trip default) (some 20417) .granted with size := 116, attempts := 7 }
     let p := alarmIn .alert { withEntry e cab with ctl := { cab.ctl with schedule := [⟨10, 77, true⟩] } }
     p.ctl.acq = .locked ∧ p.ctl.schedule.find? (fun v => v.slot == 10) = some ⟨10, 77, true⟩ ∧
      p.queue.entries.find? (fun x => x.uid == 77) = some e ∧ e.st = .granted ∧ e.mark = none ∧
      findTag e.tag p.queue.entries = some e ∧ kindOf e.body ≠ .status ∧
      attemptLimit p.mgmt.params (kindOf e.body) = some 8 ∧ e.attempts < 8 ∧
      8 ≤ ({ e with attempts := 8 } : Entry).attempts) := by decide

theorem witness_IgnitionLine :
    Part.reset.lines.ignition = false ∧ cab.lines.ignition = true ∧ (acqIn .parked Part.reset).ctl.acq = .parked ∧
    cab.ctl.acq ≠ .parked ∧ noticeRoom (withNotices 31 (acqIn .parked cab)) ∧
    ¬ noticeRoom (withNotices 32 (acqIn .parked cab)) := by
  unfold noticeRoom; decide

theorem witness_TablesAreLoaded :
    framePasses toAll cab = true ∧ [1, 250, 250, 0, 251].length ≤ 8 ∧ 8 < [1, 2, 3, 4, 5, 6, 7, 8, 9].length ∧
      1 ≤ [['a']].length ∧ (List.replicate 8 (['a'] : Text)).length ≤ 8 ∧ 31 + 0 < cab.msgs.canned.length ∧
      8 < (List.replicate 9 (['a'] : Text)).length := by decide +kernel

theorem witness_FailedAttemptsSettle :
    (let e := { entryOf (.bid 7 0 false 0) (some 7) .sent with mark := some .withdrawn }
     findTag 9 (withEntry e cab).queue.entries = some e ∧ e.mark = some .withdrawn) ∧
    (let e := entryOf (.status default) none .sent
     let p := { cab with queue := { cab.queue with entries := [e, { entryOf (.status default) none .waiting with tag := 10 }] } }
     findTag 9 p.queue.entries = some e ∧ e.mark ≠ some .withdrawn ∧ kindOf e.body = .status ∧
      (∃ x ∈ p.queue.entries, x.tag ≠ 9 ∧ kindOf x.body = .status ∧ x.st = .waiting) ∧
      (p.queue.entries.map (fun x => x.tag)).Nodup) ∧
    (let p := { withEntry sentBeacon cab with queue := { (withEntry sentBeacon cab).queue with hold := some beacon } }
     findTag 9 p.queue.entries = some sentBeacon ∧ classOf (kindOf sentBeacon.body) = .emergency ∧ p.queue.hold = some beacon) ∧
    (let e := { sentText with mark := some .expired }
     findTag 9 (withEntry e cab).queue.entries = some e ∧ kindOf e.body ≠ .status ∧ classOf (kindOf e.body) ≠ .emergency) ∧
    (findTag 9 (withEntry sentText cab).queue.entries = some sentText ∧ sentText.mark = none ∧
      attemptLimit cab.mgmt.params (kindOf sentText.body) = some 4 ∧ sentText.attempts < 4) ∧
    (4 : Nat) ≤ ({ sentText with attempts := 4 } : Entry).attempts := by decide

def fault (hard : Bool) : LinkFault := ⟨hard, .reply, .routine, 11, none, .noSlot, 0, 551, false⟩

theorem witness_FailedAttemptsSettle_faults :
    (fault false).hard = false ∧ (fault true).hard = true ∧
    (∀ f ∈ [fault false, fault true, fault true], f.second = false) ∧
    [fault false, fault true, fault true] = [fault false] ++ fault true :: [fault true] ∧
    (∀ x ∈ [fault false], x.hard = false) := by decide

theorem witness_ReportsReachSources :
    (let p := withOffers [offerOf 7 .accepted 306, offerOf 8 .bidSent 306] cab
     findOffer 7 p.offers = some (offerOf 7 .accepted 306) ∧ findOffer 8 p.offers = some (offerOf 8 .bidSent 306) ∧
      noticeRoom p) ∧
    (let p := { cab with log := { cab.log with records := [record 1 .delivered, record 2 .queued] } }
     findRecord 2 p.log.records = some (record 2 .queued) ∧ findRecord 1 p.log.records = some (record 1 .delivered) ∧
      p.log.inFlight = none ∧ ({ p.log with inFlight := some [] } : TripLog).inFlight ≠ none) ∧
    ({ cab with log := { cab.log with summary := some (default, .queued) } } : Part).log.summary = some (default, .queued) ∧
    (frameState (alarmIn .tracking cab).emg = .tracking ∧ frameState cab.emg = .idle) ∧
    (let p := acqIn .search { cab with log := { cab.log with records := [record 1 .queued, record 2 .undelivered] } }
     p.ctl.acq = .search ∧ signalsTaken p ∧ queuedCount p.log.records < 2 ∧
      p.log.records = [record 1 .queued] ++ record 2 .undelivered :: [] ∧
      (∀ x ∈ [record 1 .queued], x.delivery ≠ .undelivered) ∧ (p.log.records.map (fun x => x.number)).Nodup ∧
      roomFor (tripBody (record 2 .undelivered)) p ∧
      (let q := acqIn .locked p
       heardMarker (frameOf 301) q = some (markerOf 301 [] [] []) ∧ 301 ≠ q.ctl.cycle ∧ q.queue.entries = [] ∧
        q.queue.hold = none ∧ signalsTaken q)) ∧
    2 ≤ queuedCount [record 1 .queued, record 2 .queued] ∧
    (let p := acqIn .search { cab with log := { cab.log with summary := some (default, .pending) } }
     p.ctl.acq = .search ∧ signalsTaken p ∧ (∀ r ∈ p.log.records, r.delivery ≠ .undelivered) ∧
      p.log.summary = some (default, .pending) ∧ queueFull .bulk (fullQueue (.trip default) p)) := by
  unfold noticeRoom signalsTaken roomFor queueFull; decide +kernel

/-- A summary's byte count is a free value, of at most 8 granules, and an empty queue has room for it. -/
theorem witness_ReportsReachSources_summary : roomFor (.shiftSummary default) cab :=
  ⟨by decide, Nat.le_trans (granuleCount_le _ rfl) (by decide +kernel)⟩

theorem witness_LayoutsRoundTrip :
    (markerOf 4095 (List.replicate 24 (4095, 15)) (List.replicate 8 ⟨4095, 15, 12, 4⟩) (List.replicate 16 4095)).wf = true ∧
      (255 : Nat) ≤ 255 ∧ (List.replicate 400 (0 : Byte)).length ≤ 400 ∧
    (let r := { record 20431 .queued with extras := [⟨1, 1, 200⟩], usage := [⟨1, 1, 5, 0⟩] }
     r.extras[0]? = some ⟨1, 1, 200⟩ ∧ r.usage[0]? = some ⟨1, 1, 5, 0⟩ ∧ 52 = 48 + 4 * r.extras.length + 6 * 0 ∧
      (writeTrip r).length = 58 ∧ ((writeTrip r).drop 48).take 1 = [0x11] ∧ ((writeTrip r).drop 52).take 1 = [0x11]) := by
  decide +kernel

theorem witness_SwitchArmsAndAlerts :
    (cab.lines.switch = false ∧ cab.emg.state = .idle) ∧ ((acqIn .parked cab).ctl.acq = .parked ∧ (acqIn .parked cab).emg.state = .idle ∧
      (acqIn .parked cab).lines.switch = false) ∧
    (alarmIn .tracking cab).emg.state = .tracking ∧
    (let p := { cab with emg := ⟨.arming, some .tracking, 255, true, none, true⟩, lines := ⟨true, true, true⟩ }
     p.lines.switch = true ∧ p.emg.state = .arming ∧ p.emg.ret = some .tracking ∧ p.emg.holdRunning = true ∧ queueRoom p ∧
      (∀ e ∈ p.queue.entries, classOf (kindOf e.body) ≠ .emergency) ∧ offersDistinct p) ∧
    (cab.emg.state ≠ .arming ∨ cab.emg.holdRunning = false) ∧
    (let p := { cab with emg := ⟨.arming, some .tracking, 255, true, some 300, true⟩, lines := ⟨true, true, true⟩ }
     p.lines.switch = true ∧ p.emg.nextFrame = some 300 ∧ cyclePassed p.ctl.cycle 300 = true ∧
      cyclePassed p.ctl.cycle 301 = false ∧ (notices p).length + p.offers.length + 1 ≤ 32) := by
  unfold queueRoom offersDistinct; decide +kernel

theorem witness_FramesDueAndCancel :
    (let p := { cab with emg := ⟨.alert, none, 18, false, some 300, false⟩, sig := ⟨false, false, false, true⟩ }
     p.sig.emergency = true ∧ p.emg.state = .alert ∧ p.emg.nextFrame = some 300 ∧ cyclePassed p.ctl.cycle 300 = true ∧
      queueRoom p ∧ (∀ e ∈ p.queue.entries, classOf (kindOf e.body) ≠ .emergency) ∧ portFree p = true) ∧
    (let p := { cab with emg := ⟨.arming, some .tracking, 18, false, some 300, true⟩, sig := ⟨false, false, false, true⟩ }
     p.sig.emergency = true ∧ p.emg.state = .arming ∧ portFree p = true) ∧
    cab.sig.emergency = false := by
  unfold queueRoom; decide +kernel

theorem witness_BaseCommandsOfAnEmergency :
    (let p := { cab with emg := ⟨.alert, none, 18, false, some 307, false⟩ }
     framePasses toCab p = true ∧ toCab.kind = .cab ∧ 18 = p.emg.sequence ∧ p.emg.state = .alert ∧ p.emg.openAlert = false) ∧
    (let p := { cab with emg := ⟨.arming, some .cancelPending, 18, true, none, true⟩ }
     framePasses toCab p = true ∧ 18 = p.emg.sequence ∧ 17 ≠ p.emg.sequence ∧ p.emg.state = .arming ∧
      p.emg.ret = some .cancelPending ∧ p.emg.openAlert = true) ∧
    toAll.kind ≠ .cab ∧ (⟨true, 5, .group, 3⟩ : AirHeader).kind ≠ .cab := by decide

theorem witness_SignPatterns :
    (cab.port.outstanding = none ∧ portFree cab = true ∧ (255 : Nat) ≤ 255 ∧ (255 : Nat) < 256 ∧ (responses cab).length < 4) ∧
    (let p := waitingFor 9 18 { cab with sign := { cab.sign with write := some (.hired, ⟨255, 0⟩) } }
     p.sign.write = some (.hired, ⟨255, 0⟩) ∧ p.port.outstanding = some ⟨9, 18, false⟩ ∧ (responses p).length < 4) ∧
    (let p := { cab with sign := { cab.sign with sign := ⟨⟨5, 5⟩, true, 5⟩ } }
     0 < p.sign.sign.pattern.on ∧ 0 < p.sign.sign.pattern.off ∧ p.sign.alert.pattern.on = 0) := by decide

theorem witness_QueriesAreAnswered :
    (let p := { cab with log := { cab.log with records := [record 20431 .delivered] } }
     portFree p = true ∧ findRecord 20431 p.log.records = some (record 20431 .delivered) ∧ findRecord 0 p.log.records = none) ∧
    (framePasses toAll cab = true ∧ queueRoom cab ∧ cab.queue.entries.length < 11 ∧
      9 ≤ (freeGranules cab.queue.entries).length) ∧
    (let p := { cab with port := { cab.port with outbound := [.response 43 19 .ok .none] } }
     p.port.outbound = .response 43 19 .ok .none :: []) ∧
    (let p := { cab with log := { cab.log with records := [record 20431 .delivered], shift := some shift } }
     roomFor (.reply (.trip (findRecord 20431 p.log.records))) p ∧ p.log.shift = some shift) ∧
    queueFull .routine (fullQueue (.status default) cab) := by
  unfold queueRoom roomFor queueFull; decide +kernel

theorem witness_FaultsAreCleared : portFree cab = true ∧ framePasses toAll cab = true := by decide

theorem witness_IdentityAndFleetRestart :
    (let i : Identity := ⟨255, 4094, 3⟩
     toAll.crcOk = true ∧ cab.ctl.acq ≠ .parked ∧ toAll.kind = .all ∧ (0 : BitVec 32) = cab.mgmt.serial ∧
      cab.mgmt.idWrite = none ∧ 1 ≤ i.fleet ∧ i.fleet ≤ 255 ∧ 1 ≤ i.addr ∧ i.addr ≤ 4094 ∧ cab.meter.state = .vacant ∧
      i ≠ cab.mgmt.identity) ∧
    (toCab.kind = .cab ∧ toCab.addr = cab.mgmt.identity.addr ∧ cab.mgmt.identity.addr ≠ 0) ∧
    (let p := { cab with ctl := { cab.ctl with groups := [250] } }
     250 ∈ p.ctl.groups ∧ 249 ∉ p.ctl.groups) ∧
    (({ cab with mgmt := { cab.mgmt with idWrite := some ⟨6, 1, 0⟩ } } : Part).mgmt.idWrite = some ⟨6, 1, 0⟩) ∧
    framePasses toAll cab = true ∧
    (let p := waitingFor 41 4 { swapping with meter := { swapping.meter with held := some .hire }, emg := ⟨.arming, some .tracking, 3, true, none, true⟩ }
     framePasses toAll p = true ∧ p.meter.held ≠ none ∧ p.port.outstanding = some ⟨41, 4, false⟩ ∧ (responses p).length < 4 ∧
      frameState p.emg ≠ .idle ∧ (notices p).length + 2 ≤ 32) := by decide

theorem witness_RestartsAndStartUps :
    (let p := withInbox [messageOf 611 .urgent .yesNo .unread] (withOffers [offerOf 7 .presented 306] cab)
     p.offers.length + p.msgs.inbox.length + 2 ≤ 32 ∧ (∃ o ∈ p.offers, o.state ≠ .closed) ∧
      ∃ m ∈ p.msgs.inbox, m.held = false) ∧
    (frameState ({ cab with emg := ⟨.arming, some .tracking, 3, true, none, true⟩ } : Part).emg = .tracking) ∧
    (cab.mgmt.supplyMark = true ∧ cab.mgmt.checkAgrees = true) ∧ Part.reset.mgmt.supplyMark = false ∧
    (let p := { cab with emg := ⟨.tracking, none, 3, true, none, false⟩, log := { cab.log with inFlight := some [.shiftNumber 1], waiting := [.shiftNumber 2] } }
     p.mgmt.supplyMark = true ∧ p.emg.openAlert = true ∧ frameState p.emg = .tracking ∧ p.log.inFlight = some [.shiftNumber 1] ∧
      p.log.waiting = [.shiftNumber 2]) := by decide

/-! Invariants: a state that meets them and a step that answers a next state. -/

theorem witness_LockedSchedulesAndBackedAlerts :
    let p := { cab with ctl := { cab.ctl with schedule := [⟨1, 77, false⟩] }, emg := ⟨.arming, some .tracking, 18, true, none, true⟩ }
    scheduleLocked p ∧ alertBacked p ∧
      step ⟨p, [.distancePulse]⟩ = .next ⟨{ p with meter := { p.meter with count := 1 } }, []⟩ := by
  refine ⟨.inr rfl, ?_, rfl⟩
  unfold alertBacked; decide

/-- A queue of one TRIP, its bytes in granules 5, 2 and 0 in that order. -/
def filed : Part :=
  let e := { entryOf (.trip default) (some 1) .waiting with size := 48, granules := [5, 2, 0] }
  { cab with queue := { cab.queue with entries := [e], store := storeBody e cab.queue } }

theorem witness_StoresKeepTheirBounds :
    let p := withOffers (eightOffers .closed) { filed with msgs := fullStore.msgs }
    storesBounded p ∧ tagsDistinct p ∧ granulesHold p ∧
      step ⟨p, [.distancePulse]⟩ = .next ⟨{ p with meter := { p.meter with count := 1 } }, []⟩ := by
  refine ⟨?_, ?_, ?_, rfl⟩
  · unfold storesBounded; decide +kernel
  · unfold tagsDistinct; decide
  · unfold granulesHold; decide +kernel

theorem witness_AwardedExactlyWhileAssigned :
    let p := withOffers [offerOf 7 .awarded 306, offerOf 8 .closed 306]
      { cab with meter := { cab.meter with state := .assigned, awarded := some 7 } }
    awardedAssigned p ∧ step ⟨p, [.distancePulse]⟩ = .next ⟨{ p with meter := { p.meter with count := 1 } }, []⟩ := by
  refine ⟨?_, rfl⟩
  unfold awardedAssigned; decide

theorem witness_OutstandingRequestsMatch :
    let p := waitingFor 41 4 { swapping with meter := { swapping.meter with held := some .hire } }
    answersMatch p ∧ step ⟨p, [.distancePulse]⟩ = .next ⟨{ p with meter := { p.meter with count := 1 } }, []⟩ :=
  ⟨.inl ⟨rfl, rfl, rfl, rfl⟩, rfl⟩

theorem witness_TripKeepsItsImage :
    let p := withTrip trip (meterIn .hired cab)
    swapWithoutTrip p ∧ tripOpen p.meter.state = true ∧ swapWithoutTrip swapping ∧ swapping.tariff.activity = .swapping ∧
      step ⟨p, [.distancePulse]⟩ = .next ⟨{ p with meter := { p.meter with count := 1 } }, []⟩ := by
  refine ⟨?_, rfl, ?_, rfl, rfl⟩ <;> unfold swapWithoutTrip <;> decide

/-- A LOCKED cab with a STATUS scheduled releases a burst: the step answers a next state whose bursts are not the old ones. -/
theorem witness_OnlyLockedCabsTransmit :
    let e := { entryOf (.status default) none .waiting with size := 14 }
    let p := { withEntry e cab with ctl := { cab.ctl with schedule := [⟨1, 77, false⟩] } }
    ∃ t b, step ⟨p, [.slotStart 1]⟩ = .next t ∧ b ∈ t.part.air ∧ b ∉ p.air ∧ b.tag = 9 ∧ b.kind = .status :=
  ⟨_, _, rfl, List.mem_cons_self, by simp [withEntry, cab, Part.reset], rfl, rfl⟩

end Sys2Proof.Tests
end

section
/-! PROOFS. Resolution and adjacency (R52, R53): the table read entry by entry, the topmost entry, the adjacency lists. -/

namespace Sys2Proof.Machine.ZoneProofs

/-! ### Reading the table -/

theorem mem_zoneEntries {t : List (Option ZoneEntry)} {e : ZoneEntry} : e ∈ zoneEntries t ↔ some e ∈ t := by
  simp [zoneEntries]

theorem contains_iff {e : ZoneEntry} {x y : Nat} :
    contains e x y = true ↔ e.xMin ≤ x ∧ x ≤ e.xMax ∧ e.yMin ≤ y ∧ y ≤ e.yMax := by
  simp [contains, and_assoc]

/-- The non-empty entries whose rectangle contains a point, in index order. -/
def covering (t : List (Option ZoneEntry)) (x y : Nat) : List ZoneEntry :=
  (zoneEntries t).filter (fun e => contains e x y)

theorem mem_covering {t : List (Option ZoneEntry)} {x y : Nat} {e : ZoneEntry} :
    e ∈ covering t x y ↔ some e ∈ t ∧ contains e x y = true := by
  rw [covering, List.mem_filter, mem_zoneEntries]

theorem resolve_eq_covering (t : List (Option ZoneEntry)) (x y : Nat) :
    resolve t x y = (topLayer (covering t x y)).elim 0 (fun e => e.zone) := by
  unfold resolve covering
  cases topLayer ((zoneEntries t).filter (fun e => contains e x y)) <;> rfl

/-! ### The topmost entry -/

theorem topLayer_eq_none : ∀ {es : List ZoneEntry}, topLayer es = none ↔ es = []
  | [] => by simp [topLayer]
  | e :: es => by
    unfold topLayer
    split
    · simp
    · split <;> simp

/-- The topmost of a list is of a higher layer than those before it, and of no lower one than those after it. -/
theorem topLayer_split {b : ZoneEntry} : ∀ {es : List ZoneEntry}, topLayer es = some b →
    ∃ before after, es = before ++ b :: after ∧ (∀ d ∈ before, d.layer < b.layer) ∧ ∀ d ∈ after, d.layer ≤ b.layer
  | [], h => by simp [topLayer] at h
  | e :: es, h => by
    unfold topLayer at h
    split at h
    next hn =>
      obtain rfl : e = b := by simpa using h
      exact ⟨[], [], by simp [topLayer_eq_none.1 hn]⟩
    next c hc =>
      obtain ⟨before, after, rfl, hb, ha⟩ := topLayer_split hc
      split at h
      next hlt =>
        obtain rfl : c = b := by simpa using h
        exact ⟨e :: before, after, rfl, by simpa using ⟨hlt, hb⟩, ha⟩
      next hge =>
        obtain rfl : e = b := by simpa using h
        refine ⟨[], before ++ c :: after, rfl, by simp, fun d hd => ?_⟩
        rcases List.mem_append.1 hd with hd | hd
        · have := hb d hd; omega
        · rcases List.mem_cons.1 hd with rfl | hd
          · omega
          · have := ha d hd; omega

/-- A member of the covering entries has its place in the table, with the covering entries before and after it on the
same sides. -/
theorem covering_split {t : List (Option ZoneEntry)} {x y : Nat} {b : ZoneEntry} {before after : List ZoneEntry}
    (h : covering t x y = before ++ b :: after) :
    ∃ t₁ t₂, t = t₁ ++ some b :: t₂ ∧ covering t₁ x y = before ∧ covering t₂ x y = after := by
  obtain ⟨es₁, es₂, hz, h₁, h₂⟩ := List.filter_eq_append_iff.1 h
  obtain ⟨es₃, es₄, rfl, hno, -, h₄⟩ := List.filter_eq_cons_iff.1 h₂
  rw [zoneEntries, ← List.append_assoc] at hz
  obtain ⟨t₁, t₂, rfl, ht₁, ht₂⟩ := List.filterMap_eq_append_iff.1 hz
  obtain ⟨t₃, o, t₄, rfl, hempty, ho, ht₄⟩ := List.filterMap_eq_cons_iff.1 ht₂
  obtain rfl : o = some b := ho
  refine ⟨t₁ ++ t₃, t₄, by simp, ?_, ?_⟩
  · rw [covering, zoneEntries, List.filterMap_append, ht₁, List.filterMap_eq_nil_iff.2 hempty, List.append_nil,
      List.filter_append, h₁, List.filter_eq_nil_iff.2 hno, List.append_nil]
  · rw [covering, zoneEntries, ht₄, h₄]

/-- The entry at an index of the table contains the point, no containing entry is of a higher layer, and none of a lower
index is of the same layer (R52). -/
def Topmost (t : List (Option ZoneEntry)) (x y i : Nat) (e : ZoneEntry) : Prop :=
  t[i]? = some (some e) ∧ contains e x y = true ∧
    ∀ (j : Nat) (d : ZoneEntry), t[j]? = some (some d) → contains d x y = true →
      d.layer ≤ e.layer ∧ (d.layer = e.layer → i ≤ j)

theorem topmost_of_topLayer {t : List (Option ZoneEntry)} {x y : Nat} {e : ZoneEntry}
    (h : topLayer (covering t x y) = some e) : ∃ i, Topmost t x y i e := by
  obtain ⟨before, after, hs, hb, ha⟩ := topLayer_split h
  have hin : e ∈ covering t x y := by simp [hs]
  obtain ⟨t₁, t₂, rfl, rfl, rfl⟩ := covering_split hs
  refine ⟨t₁.length, by simp, (mem_covering.1 hin).2, fun j d hj hd => ?_⟩
  rcases Nat.lt_trichotomy j t₁.length with hlt | rfl | hgt
  · rw [List.getElem?_append_left hlt] at hj
    have := hb d (mem_covering.2 ⟨List.mem_of_getElem? hj, hd⟩)
    omega
  · obtain rfl : e = d := by simpa using hj
    simp
  · obtain ⟨k, rfl⟩ := Nat.exists_eq_add_of_lt hgt
    have hk : t₂[k]? = some (some d) := by
      rw [List.getElem?_append_right (by omega)] at hj
      simpa [Nat.add_assoc] using hj
    have := ha d (mem_covering.2 ⟨List.mem_of_getElem? hk, hd⟩)
    omega

theorem resolve_topmost {t : List (Option ZoneEntry)} {x y : Nat} (h : ∃ e, some e ∈ t ∧ contains e x y = true) :
    ∃ i e, Topmost t x y i e ∧ resolve t x y = e.zone := by
  cases ht : topLayer (covering t x y) with
  | none =>
    obtain ⟨e, he⟩ := h
    have := mem_covering.2 he
    simp [topLayer_eq_none.1 ht] at this
  | some e =>
    obtain ⟨i, hi⟩ := topmost_of_topLayer ht
    exact ⟨i, e, hi, by rw [resolve_eq_covering, ht]; rfl⟩

theorem resolve_eq_zero {t : List (Option ZoneEntry)} {x y : Nat} (h : ∀ e, some e ∈ t → contains e x y ≠ true) :
    resolve t x y = 0 := by
  have hc : covering t x y = [] :=
    List.eq_nil_iff_forall_not_mem.2 fun e he => h e (mem_covering.1 he).1 (mem_covering.1 he).2
  rw [resolve_eq_covering, topLayer_eq_none.2 hc]
  rfl

/-- Settles O17: the covering entries, split at the topmost one, give its place in the table. -/
theorem resolveTopmost : Obligations.ResolveTopmost := by
  intro t x y inside hin
  have hc : ∀ e, inside e ↔ contains e x y = true := fun e => (hin e).trans contains_iff.symm
  simp only [hc]
  refine ⟨fun h => ?_, resolve_eq_zero⟩
  obtain ⟨i, e, ⟨hi, he, hmax⟩, hz⟩ := resolve_topmost h
  exact ⟨i, e, hi, he, hz, hmax⟩

/-! ### Adjacency -/

theorem names_iff {t : List (Option ZoneEntry)} {a b : Nat} :
    names t a b = true ↔ ∃ e, some e ∈ t ∧ e.zone = a ∧ b ∈ e.adjacency := by
  simp [names, mem_zoneEntries]

theorem adjacent_iff {t : List (Option ZoneEntry)} {a b : Nat} :
    adjacent t a b = true ↔ a ≠ b ∧ a ≠ 0 ∧ b ≠ 0 ∧ (names t a b = true ∨ names t b a = true) := by
  simp [adjacent, and_assoc]

theorem adjacent_symm {t : List (Option ZoneEntry)} {a b : Nat} (h : adjacent t a b = true) :
    adjacent t b a = true := by
  obtain ⟨hab, ha, hb, hn⟩ := adjacent_iff.1 h
  exact adjacent_iff.2 ⟨hab.symm, hb, ha, hn.symm⟩

theorem adjacent_comm (t : List (Option ZoneEntry)) (a b : Nat) : adjacent t a b = adjacent t b a :=
  Bool.eq_iff_iff.2 ⟨adjacent_symm, adjacent_symm⟩

theorem adjacent_zero_left (t : List (Option ZoneEntry)) (b : Nat) : adjacent t 0 b = false := by simp [adjacent]

theorem adjacent_self (t : List (Option ZoneEntry)) (a : Nat) : adjacent t a a = false := by simp [adjacent]

/-- Settles O18: the two directions of `names` are exchanged by symmetry. -/
theorem adjacencyRule : Obligations.AdjacencyRule := by
  intro t a b
  refine ⟨?_, adjacent_comm t a b, adjacent_zero_left t b, ?_, adjacent_self t a⟩
  · rw [adjacent_iff, names_iff, names_iff]
  · rw [adjacent_comm, adjacent_zero_left]

end Sys2Proof.Machine.ZoneProofs
end

section
/-! PROOFS. The zone table as LOAD (ZONES) writes it (R50, R51): stored adjacency lists, entries at their indices, and the
tariff area evaluated from the table (R58). -/

namespace Sys2Proof.Machine.ZoneProofs

/-! ### Stored adjacency lists -/

/-- The numbers found so far with one more of the list: at the end, unless it is there already. -/
def addFirst (acc : List Nat) (n : Nat) : List Nat := if acc.contains n then acc else acc ++ [n]

/-- The numbers of a list, each at its first place. -/
def firstPlaces (ns : List Nat) : List Nat := ns.foldl addFirst []

theorem storedAdjacency_eq (zone : Nat) (ns : List Nat) :
    storedAdjacency zone ns =
      ((firstPlaces ns).filter (fun n => decide (1 ≤ n) && decide (n ≤ 250) && n != zone)).take 6 := rfl

/-- The numbers found are those of the part of the list read, in the order of their first places there. -/
def FoundIn (read acc : List Nat) : Prop :=
  (∀ m, m ∈ acc ↔ m ∈ read) ∧ acc.Pairwise (fun m n => read.idxOf m < read.idxOf n)

theorem foundIn_addFirst {read acc : List Nat} (h : FoundIn read acc) (n : Nat) :
    FoundIn (read ++ [n]) (addFirst acc n) := by
  obtain ⟨hmem, hord⟩ := h
  have old : acc.Pairwise (fun a b => (read ++ [n]).idxOf a < (read ++ [n]).idxOf b) := by
    refine hord.imp_of_mem fun ha hb hlt => ?_
    rwa [List.idxOf_append, List.idxOf_append, if_pos ((hmem _).1 ha), if_pos ((hmem _).1 hb)]
  unfold addFirst
  split
  next hn =>
    have hin : n ∈ read := (hmem n).1 (List.contains_iff_mem.1 hn)
    refine ⟨fun m => ?_, old⟩
    rw [hmem, List.mem_append, List.mem_singleton]
    exact ⟨.inl, fun k => k.elim id (fun e => e ▸ hin)⟩
  next hn =>
    have hout : n ∉ read := fun k => hn (List.contains_iff_mem.2 ((hmem n).2 k))
    refine ⟨fun m => by rw [List.mem_append, List.mem_append, hmem],
      List.pairwise_append.2 ⟨old, List.pairwise_singleton _ _, fun a ha b hb => ?_⟩⟩
    have hin : a ∈ read := (hmem a).1 ha
    rw [List.mem_singleton.1 hb, List.idxOf_append, List.idxOf_append, if_pos hin, if_neg hout]
    exact Nat.lt_of_lt_of_le (List.idxOf_lt_length_of_mem hin) (Nat.le_add_left _ _)

theorem foundIn_foldl : ∀ (ns : List Nat) {read acc : List Nat}, FoundIn read acc →
    FoundIn (read ++ ns) (ns.foldl addFirst acc)
  | [], read, acc, h => by rwa [List.append_nil, List.foldl_nil]
  | n :: ns, read, acc, h => by
    have := foundIn_foldl ns (foundIn_addFirst h n)
    rwa [List.append_assoc, List.singleton_append] at this

theorem firstPlaces_foundIn (ns : List Nat) : FoundIn ns (firstPlaces ns) :=
  foundIn_foldl ns (read := []) ⟨fun _ => Iff.rfl, List.Pairwise.nil⟩

theorem mem_firstPlaces {m : Nat} {ns : List Nat} : m ∈ firstPlaces ns ↔ m ∈ ns := (firstPlaces_foundIn ns).1 m

theorem firstPlaces_pairwise (ns : List Nat) :
    (firstPlaces ns).Pairwise (fun m n => ns.idxOf m < ns.idxOf n) := (firstPlaces_foundIn ns).2

theorem mem_storedAdjacency {zone n : Nat} {ns : List Nat} (h : n ∈ storedAdjacency zone ns) :
    n ∈ ns ∧ 1 ≤ n ∧ n ≤ 250 ∧ n ≠ zone := by
  have := List.mem_of_mem_take (storedAdjacency_eq zone ns ▸ h)
  simpa [mem_firstPlaces, and_assoc] using this

theorem storedAdjacency_pairwise (zone : Nat) (ns : List Nat) :
    (storedAdjacency zone ns).Pairwise (fun m n => ns.idxOf m < ns.idxOf n) :=
  ((firstPlaces_pairwise ns).filter _).sublist (List.take_sublist _ _)

/-- A number in range that the stored list leaves out was listed after 6 others that it keeps (R50). -/
theorem storedAdjacency_cut {zone n : Nat} {ns : List Nat} (hn : n ∈ ns) (h1 : 1 ≤ n) (h250 : n ≤ 250) (hz : n ≠ zone)
    (hout : n ∉ storedAdjacency zone ns) :
    (storedAdjacency zone ns).length = 6 ∧ ∀ m ∈ storedAdjacency zone ns, ns.idxOf m < ns.idxOf n := by
  rw [storedAdjacency_eq] at *
  generalize hk : (firstPlaces ns).filter (fun n => decide (1 ≤ n) && decide (n ≤ 250) && n != zone) = kept at *
  have hmem : n ∈ kept := by simp [← hk, mem_firstPlaces, hn, h1, h250, hz]
  have hord : (kept.take 6 ++ kept.drop 6).Pairwise (fun m n => ns.idxOf m < ns.idxOf n) := by
    rw [List.take_append_drop, ← hk]
    exact (firstPlaces_pairwise ns).filter _
  have hdrop : n ∈ kept.drop 6 := by
    rw [← List.take_append_drop 6 kept, List.mem_append] at hmem
    exact hmem.resolve_left hout
  have hlen := List.length_pos_of_mem hdrop
  rw [List.length_drop] at hlen
  exact ⟨by rw [List.length_take]; omega, fun m hm => (List.pairwise_append.1 hord).2.2 m hm n hdrop⟩

/-! ### Stored entries -/

theorem storedZone_refused {e : ZoneEntry}
    (h : e.zone = 0 ∨ 250 < e.zone ∨ e.xMax < e.xMin ∨ e.yMax < e.yMin ∨ 3 < e.layer ∨ 3 < e.area) :
    storedZone e = none := if_pos h

theorem storedZone_kept {e : ZoneEntry} (h1 : 1 ≤ e.zone) (h250 : e.zone ≤ 250) (hx : e.xMin ≤ e.xMax)
    (hy : e.yMin ≤ e.yMax) (hl : e.layer ≤ 3) (ha : e.area ≤ 3) :
    storedZone e = some { e with adjacency := storedAdjacency e.zone e.adjacency } := if_neg (by omega)

/-! ### Writing a list of entries -/

section
variable {α : Type}

theorem length_writeFrom : ∀ (first : Nat) (es table : List α), (writeFrom first es table).length = table.length
  | _, [], _ => rfl
  | first, e :: es, table => by rw [writeFrom, length_writeFrom, List.length_set]

/-- Entries that the list does not reach keep their contents (R51). -/
theorem writeFrom_outside {j : Nat} : ∀ (first : Nat) (es table : List α), j < first ∨ first + es.length ≤ j →
    (writeFrom first es table)[j]? = table[j]?
  | _, [], _, _ => rfl
  | first, e :: es, table, h => by
    rw [List.length_cons] at h
    rw [writeFrom, writeFrom_outside (first + 1) es _ (by omega), List.getElem?_set_ne (by omega)]

/-- The entry at list position i stands at index first + i, within the table (R51). -/
theorem writeFrom_at : ∀ (first : Nat) (es table : List α) (i : Nat) (e : α), es[i]? = some e →
    first + i < table.length → (writeFrom first es table)[first + i]? = some e
  | first, d :: es, table, 0, e, he, hlt => by
    obtain rfl : d = e := by simpa using he
    rw [writeFrom, writeFrom_outside (first + 1) es _ (by omega)]
    exact List.getElem?_set_self hlt
  | first, d :: es, table, i + 1, e, he, hlt => by
    have := writeFrom_at (first + 1) es (table.set first d) i e (by simpa using he) (by rw [List.length_set]; omega)
    rwa [Nat.add_right_comm, Nat.add_assoc] at this

end

/-! ### The tariff area -/

/-- The area of a zone's first entry; the one held, in zone 0 and for a zone without an entry (R58). -/
def areaIn (table : List (Option ZoneEntry)) (zone held : Nat) : Nat :=
  if zone = 0 then held
  else match (zoneEntries table).find? (fun e => e.zone == zone) with
    | some e => e.area
    | none => held

theorem areaOf_eq_areaIn (r : Resolver) : areaOf r = areaIn r.table r.zone r.area := rfl

@[simp] theorem evaluateArea_zones (p : Part) :
    (evaluateArea p).zones = { p.zones with area := areaIn p.zones.table p.zones.zone p.zones.area } := rfl

/-! ### LOAD (ZONES) -/

theorem exec_loadZones (h : AirHeader) (first : Nat) (es : List ZoneEntry) (s : State) :
    exec (.loadZones h first es) s = .next { s with part := receiveFrame h (takeZones first es) s.part } := rfl

/-- A list that is empty or of more than 8 entries is ignored (R51). -/
theorem takeZones_ignored {es : List ZoneEntry} (h : es = [] ∨ 8 < es.length) (first : Nat) (p : Part) :
    takeZones first es p = p := if_pos (by simpa using h)

/-- The resolver after a load of 1 to 8 entries (R51). -/
theorem takeZones_zones {es : List ZoneEntry} (h1 : 1 ≤ es.length) (h8 : es.length ≤ 8) (first : Nat) (p : Part) :
    (takeZones first es p).zones =
      { p.zones with
        table := writeFrom first (es.map storedZone) p.zones.table, cand := none,
        area :=
          if p.zones.stale then p.zones.area
          else areaIn (writeFrom first (es.map storedZone) p.zones.table) p.zones.zone p.zones.area } := by
  have hn : ¬ (es.isEmpty = true ∨ 8 < es.length) := by
    rw [List.isEmpty_iff_length_eq_zero]; omega
  simp only [takeZones, if_neg hn]
  cases p.zones.stale <;> simp

end Sys2Proof.Machine.ZoneProofs
end

section
/-! PROOFS. A POSITION request (R48): what a usable fix leaves in the resolver, the meter and the queue, and the statement
of the chapter's commands. -/

namespace Sys2Proof.Machine.ZoneProofs

/-! ### The STATUS of a zone change (R31, R33, R55, R102) -/

/-- A body for which the queue has a place and its granules stands in it as a WAITING entry after it is offered. -/
theorem offerEntry_holds_of_fits {b : Body} {p : Part} (src : Option Nat)
    (hf : fits (granuleCount b) p.queue.entries = true) : holdsEntry b src .waiting (offerEntry b src p) := by
  have hw : withEntries p.queue.entries p = p := rfl
  have hq : (offerEntry b src p).queue = (addEntry b src (expiryOf b p) p).queue := by
    simp only [offerEntry, admitEntry, admitQueue, evictUntil_fits hf, hf, hw, if_true, List.foldl_nil]
    split
    · rfl
    · exact wake_queue _
  exact ⟨_, hq ▸ addEntry_mem b src (expiryOf b p) p, rfl, rfl, rfl⟩

/-- A STATUS offered to a queue that takes one is WAITING in it: in the place of the one that waited, or as a new entry. -/
theorem offerStatus_waits {b : StatusBody} {p : Part} (hr : statusRoom p) :
    ∃ e ∈ (offerStatus b p).queue.entries, e.body = .status b ∧ e.st = .waiting := by
  unfold offerStatus
  split
  next e he =>
    have hwait : e.st = .waiting := by
      have := List.find?_some he
      simp only [Bool.and_eq_true, decide_eq_true_eq] at this
      exact this.2
    exact ⟨renewedStatus b p e, List.mem_map.2 ⟨e, List.mem_of_find?_eq_some he, if_pos rfl⟩, rfl, hwait⟩
  next hnone =>
    obtain ⟨e, he, hk, hs⟩ | ⟨hlen, hgr⟩ := hr
    · have := List.find?_eq_none.1 hnone e he
      simp [hk, hs] at this
    · have hf : fits (granuleCount (.status b)) p.queue.entries = true := by
        simp only [fits, Bool.and_eq_true, decide_eq_true_eq]
        exact ⟨hlen, hgr⟩
      obtain ⟨e, he, hb, -, hst⟩ := offerEntry_holds_of_fits none hf
      exact ⟨e, he, hb, hst⟩

theorem statusQueued_congr {p q : Part} (hq : q.queue = p.queue) (hb : statusBody q = statusBody p)
    (h : statusQueued p) : statusQueued q := by
  unfold statusQueued at *
  rwa [hq, hb]

theorem statusBody_of_frame {bs : List Block} {p q : Part} (h : Part.changesOnly bs p q)
    (hm : Block.meter ∉ bs := by decide) (hz : Block.zones ∉ bs := by decide) (hg : Block.mgmt ∉ bs := by decide) :
    statusBody q = statusBody p := by
  unfold statusBody reportedAge
  rw [h.meter hm, h.zones hz, h.mgmt hg]

theorem reportStatus_queued {p : Part} (hr : statusRoom p) : statusQueued (reportStatus p) := by
  unfold statusQueued
  rw [statusBody_of_frame (reportStatus_frame p)]
  exact offerStatus_waits hr

/-! ### The debounce (R54, R55) -/

/-- The current zone after a fix that resolves to a zone (R54). -/
def debounced (z : Nat) (r : Resolver) : Nat := if r.cand = some z then z else r.zone

theorem debounce_of_moves {z : Nat} {p : Part} (h : debounced z p.zones ≠ p.zones.zone) :
    p.zones.cand = some z ∧ debounced z p.zones = z ∧ debounce z p = changeZone z p := by
  have hc : p.zones.cand = some z := Decidable.byContradiction fun hc => h (if_neg hc)
  have hd : debounced z p.zones = z := if_pos hc
  exact ⟨hc, hd, by rw [debounce, if_pos hc, if_neg (fun e => h (hd.trans e.symm))]⟩

theorem debounce_of_stays {z : Nat} {p : Part} (h : debounced z p.zones = p.zones.zone) :
    debounce z p = p.setZones { p.zones with cand := some z } := by
  unfold debounce
  split
  next hc =>
    have hz : p.zones.zone = z := by rw [← h, debounced, if_pos hc]
    rw [if_pos hz, ← hc]
    rfl
  next => rfl

theorem changeZone_eq (z : Nat) (p : Part) :
    changeZone z p =
      evaluateArea
        (if p.meter.state = .vacant then reportStatus (p.setZones { p.zones with zone := z })
         else p.setZones { p.zones with zone := z }) := rfl

theorem changeZone_zones (z : Nat) (p : Part) :
    (changeZone z p).zones = { p.zones with zone := z, area := areaIn p.zones.table z p.zones.area } := by
  rw [changeZone_eq, evaluateArea_zones]
  split
  · rw [(reportStatus_frame _).zones]; rfl
  · rfl

theorem debounce_zones (z : Nat) (p : Part) :
    (debounce z p).zones =
      { p.zones with
        cand := some z, zone := debounced z p.zones,
        area :=
          if debounced z p.zones = p.zones.zone then p.zones.area
          else areaIn p.zones.table (debounced z p.zones) p.zones.area } := by
  by_cases h : debounced z p.zones = p.zones.zone
  · rw [debounce_of_stays h, if_pos h, h]
    rfl
  · obtain ⟨hc, hd, he⟩ := debounce_of_moves h
    rw [he, changeZone_zones, if_neg h, hd, ← hc]

/-- Where the zone stays, or changes while the meter is not VACANT, nothing outside the resolver changes (R55, R102). -/
theorem debounce_quiet {z : Nat} {p : Part} (h : debounced z p.zones = p.zones.zone ∨ p.meter.state ≠ .vacant) :
    Part.changesOnly [.zones] p (debounce z p) := by
  by_cases hs : debounced z p.zones = p.zones.zone
  · rw [debounce_of_stays hs]
    exact setZones_frame _ _
  · obtain ⟨-, -, he⟩ := debounce_of_moves hs
    have hv : p.meter.state ≠ .vacant := h.resolve_left hs
    rw [he, changeZone_eq, if_neg hv]
    exact frame_trans (setZones_frame _ _) (evaluateArea_frame _)

/-- A zone that changes while the meter is VACANT has a STATUS of the new zone in a queue with room (R55, R102). -/
theorem debounce_status {z : Nat} {p : Part} (h : debounced z p.zones ≠ p.zones.zone) (hv : p.meter.state = .vacant)
    (hr : statusRoom p) : statusQueued (debounce z p) := by
  obtain ⟨-, -, he⟩ := debounce_of_moves h
  rw [he, changeZone_eq, if_pos hv]
  exact statusQueued_congr rfl rfl (reportStatus_queued hr)

/-! ### A usable fix (R48) -/

/-- The tariff area once a usable fix has ended staleness (R57). -/
def heldArea (r : Resolver) : Nat := if r.stale then areaIn r.table r.zone r.area else r.area

/-- The resolver after a usable fix (R48). -/
def resolverAfter (f : Fix) (r : Resolver) : Resolver :=
  let zone := debounced (resolve r.table f.x f.y) r
  { r with
    lastFix := some (f.x, f.y), age := f.age, timer := 0, stale := false, cand := some (resolve r.table f.x f.y),
    zone := zone, area := if zone = r.zone then heldArea r else areaIn r.table zone (heldArea r) }

theorem recordFix_zones (f : Fix) (p : Part) :
    (recordFix f p).zones =
      { p.zones with lastFix := some (f.x, f.y), age := f.age, timer := 0, stale := false, area := heldArea p.zones } := by
  unfold recordFix heldArea
  cases p.zones.stale <;> rfl

/-- The fix recorded and debounced, before the meter has it (R48, steps 1 to 3). -/
def settledFix (f : Fix) (p : Part) : Part := debounce (resolve (recordFix f p).zones.table f.x f.y) (recordFix f p)

theorem usableFix_eq_settledFix (f : Fix) (p : Part) :
    usableFix f p = if f.quality = .good then windowFix f.x f.y (settledFix f p) else settledFix f p := rfl

theorem settledFix_usableFix_frame (f : Fix) (p : Part) : Part.changesOnly [.meter] (settledFix f p) (usableFix f p) := by
  rw [usableFix_eq_settledFix]
  exact frame_ite (windowFix_frame _ _ _) (frame_refl _)

theorem settledFix_frame (f : Fix) (p : Part) : Part.changesOnly [.zones, .queue, .draws, .log] p (settledFix f p) :=
  frame_step (recordFix_frame f p) (debounce_frame _ _)

theorem usableFix_zones (f : Fix) (p : Part) : (usableFix f p).zones = resolverAfter f p.zones := by
  rw [(settledFix_usableFix_frame f p).zones, settledFix, debounce_zones, recordFix_zones]
  rfl

/-- The meter after a usable fix: a GOOD one enters the plausibility window of a HIRED meter (R48, step 4; R98). -/
def meterAfter (f : Fix) (m : Meter) : Meter :=
  if m.state = .hired ∧ f.quality = .good then
    { m with
      window :=
        { m.window with
          first := some (m.window.first.getD (f.x, f.y)), last := some (f.x, f.y), fixes := m.window.fixes + 1 } }
  else m

theorem windowFix_meter {f : Fix} (h : f.quality = .good) (p : Part) :
    (windowFix f.x f.y p).meter = meterAfter f p.meter := by
  unfold windowFix meterAfter
  by_cases hh : p.meter.state = .hired
  · cases hw : p.meter.window.first <;> simp [hh, h, hw]
  · simp [hh]

theorem usableFix_meter (f : Fix) (p : Part) : (usableFix f p).meter = meterAfter f p.meter := by
  rw [usableFix_eq_settledFix]
  split
  next h => rw [windowFix_meter h, (settledFix_frame f p).meter]
  next h => rw [(settledFix_frame f p).meter, meterAfter, if_neg (fun k => h k.2)]

theorem usableFix_quiet {f : Fix} {p : Part}
    (h : (usableFix f p).zones.zone = p.zones.zone ∨ p.meter.state ≠ .vacant) :
    Part.changesOnly [.zones, .meter] p (usableFix f p) := by
  rw [usableFix_zones] at h
  have hr := recordFix_frame f p
  have hd : Part.changesOnly [.zones] (recordFix f p) (settledFix f p) :=
    debounce_quiet (by rw [hr.meter, recordFix_zones]; exact h)
  exact frame_step (frame_trans hr hd) (settledFix_usableFix_frame f p)

theorem usableFix_status {f : Fix} {p : Part} (hz : (usableFix f p).zones.zone ≠ p.zones.zone)
    (hv : p.meter.state = .vacant) (hr : statusRoom p) : statusQueued (usableFix f p) := by
  rw [usableFix_zones] at hz
  have hrec := recordFix_frame f p
  have hs : statusQueued (settledFix f p) :=
    debounce_status (by rw [recordFix_zones]; exact hz) (by rw [hrec.meter, hv])
      (by unfold statusRoom; rw [hrec.queue]; exact hr)
  have hm : (usableFix f p).meter = (settledFix f p).meter := by
    rw [usableFix_meter, (settledFix_frame f p).meter, meterAfter, if_neg (by simp [hv])]
  have hw := settledFix_usableFix_frame f p
  refine statusQueued_congr hw.queue ?_ hs
  unfold statusBody reportedAge
  rw [hm, hw.zones, hw.mgmt]

/-! ### The request at the port (R191, R192; log 20) -/

theorem exec_position (req : Nat) (fix : Option Fix) (s : State) :
    exec (.position req fix) s = .next { s with part := takePosition req fix s.part } := rfl

/-- A fix whose coordinates and age the item can carry (log 20). -/
def InForm (f : Fix) : Prop := f.x ≤ 65535 ∧ f.y ≤ 65535 ∧ f.age ≤ 255

theorem fixInForm_some {f : Fix} (h : InForm f) : fixInForm (some f) = some f := by
  obtain ⟨hx, hy, ha⟩ := h
  simp [fixInForm, Option.filter, hx, hy, ha]

theorem fixInForm_none {f : Fix} (h : ¬ InForm f) : fixInForm (some f) = none := by
  simpa [fixInForm, Option.filter, and_assoc, InForm] using h

/-- The port with a POSITION outstanding, as the resolver finds it (R192). -/
def positionAsked (req : Nat) (p : Part) : Part := p.setPort { p.port with outstanding := some ⟨req, 1, false⟩ }

theorem positionAsked_frame (req : Nat) (p : Part) : Part.changesOnly [.port] p (positionAsked req p) := setPort_frame _ _

theorem takePosition_inForm {f : Fix} {p : Part} (req : Nat) (hp : portFree p = true) (h : InForm f) :
    takePosition req (some f) p = takeFix f (positionAsked req p) := by
  rw [takePosition, fixInForm_some h]
  exact takeRequest_of_free req 1 (takeFix f) p hp

theorem takePosition_notInForm {f : Fix} {p : Part} (req : Nat) (h : ¬ InForm f) :
    takePosition req (some f) p = placeResponse req 1 .bad .none p := by
  rw [takePosition, fixInForm_none h]
  rfl

theorem takeFix_usable {f : Fix} (h : f.quality = .good ∨ f.quality = .coarse) (p : Part) :
    takeFix f p = answer .ok .none (usableFix f p) := by
  rcases h with h | h <;> simp only [takeFix, h]

theorem takeFix_unusable {f : Fix} (h : f.quality = .none ∨ f.quality = .other) (p : Part) :
    takeFix f p = answer (if f.quality = .none then .ok else .bad) .none p := by
  rcases h with h | h <;> simp [takeFix, h]

theorem placeResponse_port {p : Part} (req item : Nat) (code : RespCode) (body : RespBody)
    (h : (responses p).length < 4) :
    (placeResponse req item code body p).port =
      { p.port with outbound := p.port.outbound ++ [.response req item code body] } := by
  rw [placeResponse, if_pos (show (p.port.outbound.filter isResponse).length < 4 from h)]
  rfl

/-- Settles O19, clause by clause: a usable fix by `resolverAfter` and `meterAfter`, a load by what `writeFrom` leaves at
each index. -/
theorem positionsAndZones : Obligations.PositionsAndZones := by
  refine ⟨?usable, ?unusable, ?notInForm, ?loaded, ?ignored, ?stored⟩
  case usable =>
    intro s req f hp hf hu
    have hm : (usableFix f (positionAsked req s.part)).meter = meterAfter f s.part.meter := usableFix_meter _ _
    have hz : (usableFix f (positionAsked req s.part)).zones = resolverAfter f s.part.zones := usableFix_zones _ _
    have ha := answer_frame .ok .none (usableFix f (positionAsked req s.part))
    refine ⟨answer .ok .none (usableFix f (positionAsked req s.part)), ?_, ?_, ?_⟩
    · rw [exec_position, takePosition_inForm req hp hf, takeFix_usable hu]
    · exact answered_of_kept _ _ hp (kept_of_frame (usableFix_frame f _))
    rw [ha.zones, ha.meter, ha.queue, ha.log, ha.draws, hm, hz]
    refine ⟨rfl, rfl, rfl, rfl, rfl, rfl, rfl, ?area, ?window, ?meter, ?status, ?quiet, ?frame⟩
    case area =>
      rintro held rfl
      rfl
    case window => exact fun hh hg => if_pos ⟨hh, hg⟩
    case meter =>
      refine fun h => if_neg (fun k => ?_)
      rcases h with hh | hc
      · exact hh k.1
      · rw [k.2] at hc
        cases hc
    case status =>
      exact fun hne hv hr =>
        statusQueued_congr ha.queue (statusBody_of_frame ha) (usableFix_status (by rw [hz]; exact hne) hv hr)
    case quiet =>
      intro h
      have hq := usableFix_quiet (f := f) (p := positionAsked req s.part) (by rw [hz]; exact h)
      exact ⟨hq.queue, hq.log, hq.draws⟩
    case frame =>
      have hq := frame_step (ds := [.zones, .queue, .draws, .log, .meter, .port]) (usableFix_frame f _) ha
      exact frame_step (positionAsked_frame req s.part) hq
  case unusable =>
    intro s req f hp hf hu
    refine ⟨_, by rw [exec_position, takePosition_inForm req hp hf, takeFix_unusable hu], ?_, ?_⟩
    · exact answered_of_kept _ _ hp (kept_refl _)
    · exact frame_trans (positionAsked_frame req s.part) (answer_frame _ _ _)
  case notInForm =>
    intro s req f hf hr
    exact ⟨_, by rw [exec_position, takePosition_notInForm req hf], placeResponse_port _ _ _ _ hr,
      placeResponse_frame _ _ _ _ _⟩
  case loaded =>
    intro s h first es hp h1 h8
    refine ⟨takeZones first es s.part, by rw [exec_loadZones, receiveFrame, if_pos hp], ?_⟩
    rw [takeZones_zones h1 h8]
    refine ⟨rfl, rfl, rfl, length_writeFrom _ _ _, fun i e he hlt => ?_, fun j hj => ?_, takeZones_frame _ _ _⟩
    · exact writeFrom_at _ _ _ _ _ (by rw [List.getElem?_map, he]; rfl) hlt
    · exact writeFrom_outside _ _ _ (by rwa [List.length_map])
  case ignored =>
    intro s h first es hes
    rw [exec_loadZones, receiveFrame, takeZones_ignored hes, ite_self]
  case stored =>
    refine fun e => ⟨storedZone_refused, fun h1 h250 hx hy hl ha => ?_⟩
    exact ⟨_, storedZone_kept h1 h250 hx hy hl ha, List.length_take_le _ _, fun n => mem_storedAdjacency,
      storedAdjacency_pairwise _ _, fun n => storedAdjacency_cut⟩

end Sys2Proof.Machine.ZoneProofs
end

section
/-! PROOFS. Band selection (R112): the latest row and its place among the candidate rows, and the tariff that a checked
image (R124) gives for every selection. -/

namespace Sys2Proof.Machine.FareProofs

/-! ### The latest row -/

theorem latestRow_eq_none : ∀ {rows : List BandRow}, latestRow rows = none ↔ rows = []
  | [] => by simp [latestRow]
  | r :: rs => by
    unfold latestRow
    split
    · simp
    · split <;> simp

/-- Among the rows of a list that satisfy a test, the row at an index is of the greatest start, and of the equals it is
the first (R112). -/
def LatestAt (p : BandRow → Bool) (rows : List BandRow) (i : Nat) (r : BandRow) : Prop :=
  rows[i]? = some r ∧ p r = true ∧
    ∀ (j : Nat) (x : BandRow), rows[j]? = some x → p x = true → x.start ≤ r.start ∧ (x.start = r.start → i ≤ j)

theorem latestAt_cons_succ {p : BandRow → Bool} {rows : List BandRow} {i : Nat} {a r : BandRow}
    (h : LatestAt p rows i r) (ha : p a = true → a.start < r.start) : LatestAt p (a :: rows) (i + 1) r := by
  obtain ⟨hi, hr, hmax⟩ := h
  refine ⟨by simpa using hi, hr, fun j x hj hx => ?_⟩
  cases j with
  | zero =>
    obtain rfl : a = x := by simpa using hj
    have := ha hx
    omega
  | succ j =>
    have := hmax j x (by simpa using hj) hx
    omega

theorem latestAt_cons_zero {p : BandRow → Bool} {rows : List BandRow} {a : BandRow} (ha : p a = true)
    (h : ∀ x ∈ rows, p x = true → x.start ≤ a.start) : LatestAt p (a :: rows) 0 a := by
  refine ⟨rfl, ha, fun j x hj hx => ⟨?_, fun _ => Nat.zero_le j⟩⟩
  rcases List.mem_cons.1 (List.mem_of_getElem? hj) with rfl | hmem
  · exact Nat.le_refl _
  · exact h x hmem hx

theorem LatestAt.start_le {p : BandRow → Bool} {rows : List BandRow} {i : Nat} {r x : BandRow}
    (h : LatestAt p rows i r) (hx : x ∈ rows) (hp : p x = true) : x.start ≤ r.start := by
  obtain ⟨-, -, hmax⟩ := h
  obtain ⟨j, hj⟩ := List.mem_iff_getElem?.1 hx
  exact (hmax j x hj hp).1

/-- The latest of the rows that satisfy a test, at its place in the whole list. -/
theorem latestRow_filter {p : BandRow → Bool} {r : BandRow} : ∀ {rows : List BandRow},
    latestRow (rows.filter p) = some r → ∃ i, LatestAt p rows i r
  | [], h => by simp [latestRow] at h
  | a :: rows, h => by
    by_cases ha : p a = true
    · rw [List.filter_cons_of_pos ha, latestRow] at h
      split at h
      next hn =>
        obtain rfl : a = r := by simpa using h
        have hno := List.filter_eq_nil_iff.1 (latestRow_eq_none.1 hn)
        exact ⟨0, latestAt_cons_zero ha fun x hx hp => absurd hp (hno x hx)⟩
      next b hb =>
        obtain ⟨i, hi⟩ := latestRow_filter hb
        split at h
        next hlt =>
          obtain rfl : b = r := by simpa using h
          exact ⟨i + 1, latestAt_cons_succ hi fun _ => hlt⟩
        next hge =>
          obtain rfl : a = r := by simpa using h
          exact ⟨0, latestAt_cons_zero ha fun x hx hp => Nat.le_trans (hi.start_le hx hp) (Nat.le_of_not_lt hge)⟩
    · rw [List.filter_cons_of_neg ha] at h
      obtain ⟨i, hi⟩ := latestRow_filter h
      exact ⟨i + 1, latestAt_cons_succ hi fun hp => absurd hp ha⟩

theorem latestRow_latestAt {rows : List BandRow} {r : BandRow} (h : latestRow rows = some r) :
    ∃ i, LatestAt (fun _ => true) rows i r :=
  latestRow_filter (by rwa [List.filter_eq_self.2 fun _ _ => rfl])

/-! ### The selected tariff, case by case -/

/-- The candidate rows that start at or before a minute. -/
def startedRows (img : Image) (area day minute : Nat) : List BandRow :=
  (candidateRows img area day).filter (fun r => decide (r.start ≤ minute))

theorem selectTariff_started {img : Image} {area day minute : Nat} {r : BandRow}
    (h : latestRow (startedRows img area day minute) = some r) : selectTariff img area day minute = r.tariff := by
  rw [startedRows] at h
  simp [selectTariff, h]

theorem selectTariff_notStarted {img : Image} {area day minute : Nat} {r : BandRow}
    (hs : startedRows img area day minute = []) (h : latestRow (candidateRows img area day) = some r) :
    selectTariff img area day minute = r.tariff := by
  rw [startedRows] at hs
  simp [selectTariff, latestRow, hs, h]

theorem selectTariff_noRow {img : Image} {area day : Nat} (minute : Nat) (h : candidateRows img area day = []) :
    selectTariff img area day minute = defaultTariff img area := by
  simp [selectTariff, latestRow, h]

/-- The selection is that of the latest started row, else of the latest row, else the default (R112). -/
theorem selectTariff_cases (img : Image) (area day minute : Nat) :
    (∃ r, latestRow (startedRows img area day minute) = some r ∧ selectTariff img area day minute = r.tariff) ∨
    (startedRows img area day minute = [] ∧
      ∃ r, latestRow (candidateRows img area day) = some r ∧ selectTariff img area day minute = r.tariff) ∨
    (candidateRows img area day = [] ∧ selectTariff img area day minute = defaultTariff img area) := by
  cases hs : latestRow (startedRows img area day minute) with
  | some r => exact .inl ⟨r, rfl, selectTariff_started hs⟩
  | none =>
    have hs := latestRow_eq_none.1 hs
    cases hc : latestRow (candidateRows img area day) with
    | some r => exact .inr (.inl ⟨hs, r, rfl, selectTariff_notStarted hs hc⟩)
    | none =>
      have hc := latestRow_eq_none.1 hc
      exact .inr (.inr ⟨hc, selectTariff_noRow minute hc⟩)

theorem mem_startedRows {img : Image} {area day minute : Nat} {r : BandRow} :
    r ∈ startedRows img area day minute ↔ r ∈ candidateRows img area day ∧ r.start ≤ minute := by
  simp [startedRows]

/-! ### What a checked image gives -/

/-- The checks of R124 that the fare engine relies on. -/
theorem tablesValid_parts {img : Image} (h : tablesValid img = true) :
    (∀ t ∈ img.tariffs, tariffOk t = true) ∧ (∀ r ∈ img.bands, bandOk img r = true) ∧ img.defaults.length = 4 ∧
      ∀ n ∈ img.defaults, definesTariff img n = true := by
  simp only [tablesValid, Bool.and_eq_true, decide_eq_true_eq, List.all_eq_true] at h
  obtain ⟨⟨⟨⟨⟨⟨⟨⟨-, htariffs⟩, -⟩, hbands⟩, hlen⟩, hdefaults⟩, -⟩, -⟩, -⟩ := h
  exact ⟨htariffs, hbands, hlen, hdefaults⟩

theorem bandOk_defines {img : Image} {r : BandRow} (h : bandOk img r = true) : definesTariff img r.tariff = true :=
  (Bool.and_eq_true_iff.1 h).2

theorem candidateRow_defined {img : Image} {area day : Nat} {r : BandRow} (hv : tablesValid img = true)
    (hr : r ∈ candidateRows img area day) : definesTariff img r.tariff = true := by
  obtain ⟨-, hbands, -, -⟩ := tablesValid_parts hv
  exact bandOk_defines (hbands r (List.mem_filter.1 hr).1)

theorem defaultTariff_defined {img : Image} {area : Nat} (hv : tablesValid img = true) (ha : area ≤ 3) :
    definesTariff img (defaultTariff img area) = true := by
  obtain ⟨-, -, hlen, hdefaults⟩ := tablesValid_parts hv
  have hlt : area < img.defaults.length := by omega
  have heq : defaultTariff img area = img.defaults[area] := by
    rw [defaultTariff, List.getD_eq_getElem?_getD, List.getElem?_eq_getElem hlt, Option.getD_some]
  exact heq ▸ hdefaults _ (List.getElem_mem hlt)

theorem latestRow_mem {rows : List BandRow} {r : BandRow} (h : latestRow rows = some r) : r ∈ rows := by
  obtain ⟨i, hi, -⟩ := latestRow_latestAt h
  exact List.mem_of_getElem? hi

theorem selectTariff_defined {img : Image} {area : Nat} (day minute : Nat) (hv : tablesValid img = true)
    (ha : area ≤ 3) : definesTariff img (selectTariff img area day minute) = true := by
  rcases selectTariff_cases img area day minute with ⟨r, hr, heq⟩ | ⟨-, r, hr, heq⟩ | ⟨-, heq⟩ <;> rw [heq]
  · exact candidateRow_defined hv (mem_startedRows.1 (latestRow_mem hr)).1
  · exact candidateRow_defined hv (latestRow_mem hr)
  · exact defaultTariff_defined hv ha

/-- Settles O15: the cases of the selection, each with the place of its latest row among the candidate rows. -/
theorem bandSelection : Obligations.BandSelection := by
  intro img area day tod rows hrows
  obtain rfl : rows = candidateRows img area day := hrows
  refine ⟨fun hex => ?started, fun hne hlate => ?notStarted, selectTariff_noRow _, selectTariff_defined _ _⟩
  case started =>
    obtain ⟨x, hx, hle⟩ := hex
    have hne : startedRows img area day (tod / 60) ≠ [] := List.ne_nil_of_mem (mem_startedRows.2 ⟨hx, hle⟩)
    obtain ⟨r, hr⟩ := Option.ne_none_iff_exists'.1 (mt latestRow_eq_none.1 hne)
    obtain ⟨i, hi, hri, hmax⟩ := latestRow_filter hr
    refine ⟨i, r, hi, of_decide_eq_true hri, selectTariff_started hr, fun j x hj hx => ?_⟩
    exact hmax j x hj (decide_eq_true hx)
  case notStarted =>
    have hs : startedRows img area day (tod / 60) = [] :=
      List.eq_nil_iff_forall_not_mem.2 fun x hx => by
        obtain ⟨hmem, hle⟩ := mem_startedRows.1 hx
        exact Nat.not_lt_of_le hle (hlate x hmem)
    obtain ⟨r, hr⟩ := Option.ne_none_iff_exists'.1 (mt latestRow_eq_none.1 hne)
    obtain ⟨i, hi, -, hmax⟩ := latestRow_latestAt hr
    exact ⟨i, r, hi, selectTariff_notStarted hs hr, fun j x hj => hmax j x hj rfl⟩

end Sys2Proof.Machine.FareProofs
end

section
/-! PROOFS. The drops of a second (R108, R109), the thresholds after a tariff change (R114, R115) and the charged fare
(R117, R118). The drops of a second are `nDrops` for some n; each account has a closed form after n drops. -/

namespace Sys2Proof.Machine.FareProofs

/-! ### One drop, account by account -/

@[simp] theorem makeDrop_progress (f : Fare) : (makeDrop f).progress = f.progress - f.threshold := rfl
@[simp] theorem makeDrop_threshold (f : Fare) : (makeDrop f).threshold = f.q := rfl
@[simp] theorem makeDrop_firstDrop (f : Fare) : (makeDrop f).firstDrop = true := rfl
@[simp] theorem makeDrop_q (f : Fare) : (makeDrop f).q = f.q := rfl
@[simp] theorem makeDrop_drop (f : Fare) : (makeDrop f).drop = f.drop := rfl
@[simp] theorem makeDrop_metered (f : Fare) : (makeDrop f).metered = min 999999 (f.metered + f.drop) := rfl
@[simp] theorem makeDrop_saturated (f : Fare) :
    (makeDrop f).saturated = (f.saturated || decide (999999 < f.metered + f.drop)) := rfl
@[simp] theorem makeDrop_usage (f : Fare) :
    (makeDrop f).usage = onLast (fun u => { u with drops := min 65535 (u.drops + 1) }) f.usage := rfl
@[simp] theorem makeDrop_extrasTotal (f : Fare) : (makeDrop f).extrasTotal = f.extrasTotal := rfl

theorem onLast_append (g : UsageEntry → UsageEntry) (u : UsageEntry) : ∀ us : List UsageEntry,
    onLast g (us ++ [u]) = us ++ [g u]
  | [] => rfl
  | [_] => rfl
  | v :: w :: us => congrArg (v :: ·) (onLast_append g u (w :: us))

/-! ### The accounts after n drops -/

/-- One drop after another, n in all. -/
def nDrops : Nat → Fare → Fare
  | 0, f => f
  | n + 1, f => makeDrop (nDrops n f)

theorem nDrops_zero (f : Fare) : nDrops 0 f = f := rfl

theorem nDrops_succ (n : Nat) (f : Fare) : nDrops (n + 1) f = makeDrop (nDrops n f) := rfl

theorem nDrops_makeDrop (n : Nat) (f : Fare) : nDrops n (makeDrop f) = nDrops (n + 1) f := by
  induction n with
  | zero => rfl
  | succ n ih => rw [nDrops_succ, ih, nDrops_succ (n + 1)]

theorem nDrops_q (n : Nat) (f : Fare) : (nDrops n f).q = f.q := by
  induction n with
  | zero => rfl
  | succ n ih => rw [nDrops_succ, makeDrop_q, ih]

theorem nDrops_drop (n : Nat) (f : Fare) : (nDrops n f).drop = f.drop := by
  induction n with
  | zero => rfl
  | succ n ih => rw [nDrops_succ, makeDrop_drop, ih]

theorem nDrops_succ_threshold (n : Nat) (f : Fare) : (nDrops (n + 1) f).threshold = f.q := by
  rw [nDrops_succ, makeDrop_threshold, nDrops_q]

theorem nDrops_succ_firstDrop (n : Nat) (f : Fare) : (nDrops (n + 1) f).firstDrop = true := by
  rw [nDrops_succ, makeDrop_firstDrop]

theorem nDrops_metered {f : Fare} (h : f.metered ≤ 999999) (n : Nat) :
    (nDrops n f).metered = min 999999 (f.metered + n * f.drop) := by
  induction n with
  | zero => rw [nDrops_zero, Nat.zero_mul, Nat.add_zero, Nat.min_eq_right h]
  | succ n ih =>
    rw [nDrops_succ, makeDrop_metered, ih, nDrops_drop, Nat.succ_mul]
    omega

theorem nDrops_saturated {f : Fare} (h : f.metered ≤ 999999) (n : Nat) :
    (nDrops n f).saturated = true ↔ f.saturated = true ∨ 999999 < f.metered + n * f.drop := by
  induction n with
  | zero => rw [nDrops_zero, Nat.zero_mul, Nat.add_zero, or_iff_left (Nat.not_lt_of_le h)]
  | succ n ih =>
    rw [nDrops_succ, makeDrop_saturated, Bool.or_eq_true, decide_eq_true_eq, ih, nDrops_metered h,
      nDrops_drop, Nat.succ_mul, or_assoc]
    exact or_congr_right (by omega)

theorem nDrops_usage {f : Fare} {us : List UsageEntry} {u : UsageEntry} (h : f.usage = us ++ [u])
    (hu : u.drops ≤ 65535) (n : Nat) :
    (nDrops n f).usage = us ++ [{ u with drops := min 65535 (u.drops + n) }] := by
  induction n with
  | zero => rw [Nat.add_zero, Nat.min_eq_right hu]; exact h
  | succ n ih =>
    have hmin : min 65535 (min 65535 (u.drops + n) + 1) = min 65535 (u.drops + (n + 1)) := by omega
    rw [nDrops_succ, makeDrop_usage, ih, onLast_append, hmin]

/-- The first drop takes the threshold in force, every later one takes Q (R109). -/
theorem nDrops_succ_progress {f : Fare} (n : Nat)
    (h : ∀ i < n + 1, (nDrops i f).threshold ≤ (nDrops i f).progress) :
    f.progress = (nDrops (n + 1) f).progress + f.threshold + n * f.q := by
  induction n with
  | zero =>
    have hdue : f.threshold ≤ f.progress := h 0 (by omega)
    rw [nDrops_succ, nDrops_zero, makeDrop_progress]
    omega
  | succ n ih =>
    have hdue := h (n + 1) (by omega)
    have hpast := ih fun i hi => h i (by omega)
    rw [nDrops_succ_threshold] at hdue
    rw [nDrops_succ, makeDrop_progress, nDrops_succ_threshold, Nat.succ_mul]
    omega

/-! ### The drops of a second -/

/-- The drops made are some number of single drops, each made while it was due. -/
theorem makeDrops_eq_nDrops : ∀ (fuel : Nat) (f : Fare),
    ∃ n, makeDrops fuel f = nDrops n f ∧ ∀ i < n, (nDrops i f).threshold ≤ (nDrops i f).progress
  | 0, f => ⟨0, rfl, by simp⟩
  | fuel + 1, f => by
    rw [makeDrops]
    split
    next hdue =>
      obtain ⟨n, hn, hall⟩ := makeDrops_eq_nDrops fuel (makeDrop f)
      refine ⟨n + 1, hn.trans (nDrops_makeDrop n f), fun i hi => ?_⟩
      cases i with
      | zero => exact hdue
      | succ i => exact nDrops_makeDrop i f ▸ hall i (Nat.lt_of_succ_lt_succ hi)
    next => exact ⟨0, rfl, by simp⟩

/-- A bound above the progress suffices for every drop that is due. -/
theorem makeDrops_progress_lt : ∀ (fuel : Nat) {f : Fare}, 0 < f.threshold → 0 < f.q → f.progress < fuel →
    (makeDrops fuel f).progress < (makeDrops fuel f).threshold
  | 0, _, _, _, h => absurd h (Nat.not_lt_zero _)
  | fuel + 1, f, ht, hq, h => by
    rw [makeDrops]
    split
    next hdue => exact makeDrops_progress_lt fuel hq hq (by rw [makeDrop_progress]; omega)
    next hnot => exact Nat.lt_of_not_le hnot

/-- The accounts with a second's contribution added to the progress (R108). -/
def addContribution (p : Nat) (f : Fare) : Fare := { f with progress := f.progress + contribution f p }

theorem chargeDrops_eq (p : Nat) (f : Fare) :
    chargeDrops p f = makeDrops ((addContribution p f).progress + 1) (addContribution p f) := rfl

theorem chargeDrops_progress_lt (p : Nat) {f : Fare} (ht : 0 < f.threshold) (hq : 0 < f.q) :
    (chargeDrops p f).progress < (chargeDrops p f).threshold := by
  rw [chargeDrops_eq]
  exact makeDrops_progress_lt _ ht hq (Nat.lt_succ_self _)

theorem makeDrops_extrasTotal : ∀ (fuel : Nat) (f : Fare), (makeDrops fuel f).extrasTotal = f.extrasTotal
  | 0, _ => rfl
  | fuel + 1, f => by
    rw [makeDrops]
    split
    · rw [makeDrops_extrasTotal fuel, makeDrop_extrasTotal]
    · rfl

/-! ### The threshold after a tariff change -/

theorem tariffOf_ok {img : Image} {n : Nat} (hv : tablesValid img = true) (hn : definesTariff img n = true) :
    tariffOk (tariffOf img n) = true := by
  obtain ⟨htariffs, -⟩ := tablesValid_parts hv
  obtain ⟨t, ht⟩ := Option.isSome_iff_exists.1 (List.find?_isSome.2 (List.any_eq_true.1 hn))
  rw [tariffOf, ht]
  exact htariffs t (List.mem_of_find?_eq_some ht)

theorem steps_pos_of_tariffOk {t : Tariff} (h : tariffOk t = true) : 0 < t.distStep ∧ 0 < t.timeStep := by
  simp only [tariffOk, Bool.and_eq_true, decide_eq_true_eq] at h
  omega

theorem loadTariff_q_pos {t : Tariff} {k : Nat} (ht : tariffOk t = true) (hk : 0 < k) (f : Fare) :
    0 < (loadTariff t k f).q := by
  obtain ⟨hd, hs⟩ := steps_pos_of_tariffOk ht
  exact Nat.mul_pos (Nat.mul_pos hd hk) hs

theorem loadTariff_q1_pos {t : Tariff} {k : Nat} (ht : tariffOk t = true) (hk : 0 < k) (f : Fare) :
    0 < (loadTariff t k f).q1 := by
  obtain ⟨hd, hs⟩ := steps_pos_of_tariffOk ht
  rw [loadTariff]
  split
  next hi => exact Nat.mul_pos (Nat.mul_pos hi hk) hs
  next => exact Nat.mul_pos (Nat.mul_pos hd hk) hs

theorem changeTariff_progress (img : Image) (n area k : Nat) (f : Fare) :
    (changeTariff img n area k f).progress = f.progress * (changeTariff img n area k f).threshold / f.threshold := rfl

theorem changeTariff_threshold_pos {img : Image} {n k : Nat} (hv : tablesValid img = true)
    (hn : definesTariff img n = true) (hk : 0 < k) (area : Nat) (f : Fare) :
    0 < (changeTariff img n area k f).threshold := by
  have hok := tariffOf_ok hv hn
  rw [changeTariff]
  dsimp only
  split
  next => exact loadTariff_q_pos hok hk f
  next => exact loadTariff_q1_pos hok hk f

/-- Rescaled by the thresholds, a progress below the old threshold is below the new one (R115). -/
theorem changeTariff_progress_lt {img : Image} {n k : Nat} (hv : tablesValid img = true)
    (hn : definesTariff img n = true) (hk : 0 < k) (area : Nat) {f : Fare} (hlt : f.progress < f.threshold) :
    (changeTariff img n area k f).progress < (changeTariff img n area k f).threshold := by
  rw [changeTariff_progress]
  exact Nat.div_lt_of_lt_mul (Nat.mul_lt_mul_of_pos_right hlt (changeTariff_threshold_pos hv hn hk area f))

theorem evaluateBand_progress_lt {img : Image} {n k : Nat} (hv : tablesValid img = true)
    (hn : definesTariff img n = true) (hk : 0 < k) (area : Nat) {f : Fare} (hlt : f.progress < f.threshold) :
    (evaluateBand img n area k f).progress < (evaluateBand img n area k f).threshold := by
  rw [evaluateBand]
  split
  · exact hlt
  · exact changeTariff_progress_lt hv hn hk area hlt

/-! ### The charged fare and the extras -/

theorem formCharged_charged (price : Price) (f : Fare) :
    (formCharged price f).charged = min 999999 (fareDue price f.metered f.extrasTotal) := rfl

theorem formCharged_saturated (price : Price) (f : Fare) :
    (formCharged price f).saturated =
      (f.saturated || decide (999999 < fareDue price f.metered f.extrasTotal)) := rfl

theorem evaluateBand_metered (img : Image) (n area k : Nat) (f : Fare) :
    (evaluateBand img n area k f).metered = f.metered := by
  rw [evaluateBand]
  split <;> rfl

theorem evaluateBand_extrasTotal (img : Image) (n area k : Nat) (f : Fare) :
    (evaluateBand img n area k f).extrasTotal = f.extrasTotal := by
  rw [evaluateBand]
  split <;> rfl

theorem chargeSecond_metered (img : Image) (n area k pulses : Nat) (price : Price) (f : Fare) :
    (chargeSecond img n area k pulses price f).metered = (chargeDrops pulses f).metered :=
  evaluateBand_metered img n area k (countSecond pulses (chargeDrops pulses f))

theorem chargeSecond_extrasTotal (img : Image) (n area k pulses : Nat) (price : Price) (f : Fare) :
    (chargeSecond img n area k pulses price f).extrasTotal = f.extrasTotal :=
  (evaluateBand_extrasTotal img n area k (countSecond pulses (chargeDrops pulses f))).trans
    (makeDrops_extrasTotal _ (addContribution pulses f))

theorem chargeSecond_charged (img : Image) (n area k pulses : Nat) (price : Price) (f : Fare) :
    (chargeSecond img n area k pulses price f).charged =
      min 999999 (fareDue price (chargeDrops pulses f).metered f.extrasTotal) := by
  rw [← chargeSecond_metered img n area k pulses price, ← chargeSecond_extrasTotal img n area k pulses price]
  exact formCharged_charged price (evaluateBand img n area k (countSecond pulses (chargeDrops pulses f)))

/-- The accounts with a charged fare and an extras total put in, and SATURATED set when either was held: what an EXTRA
does to them. -/
def withExtras (charged extras : Nat) (held : Bool) (f : Fare) : Fare :=
  { f with charged := charged, extrasTotal := extras, saturated := f.saturated || held }

theorem formCharged_reformExtras (price : Price) (img : Image) (extras : List (Nat × Nat)) (f : Fare) :
    ∃ charged held, formCharged price (reformExtras img extras f) =
      withExtras charged (reformExtras img extras f).extrasTotal held f := by
  refine ⟨(formCharged price (reformExtras img extras f)).charged, extrasHeld img extras ||
    decide (maxAmount < fareDue price f.metered (reformExtras img extras f).extrasTotal), ?_⟩
  rw [withExtras, ← Bool.or_assoc]
  rfl

theorem makeDrop_withExtras (charged extras : Nat) (held : Bool) (f : Fare) :
    makeDrop (withExtras charged extras held f) = withExtras charged extras held (makeDrop f) := by
  have hs : (f.saturated || held || decide (maxAmount < f.metered + f.drop)) = ((makeDrop f).saturated || held) :=
    Bool.or_right_comm _ _ _
  exact congrArg (fun b => { withExtras charged extras held (makeDrop f) with saturated := b }) hs

theorem makeDrops_withExtras (charged extras : Nat) (held : Bool) : ∀ (fuel : Nat) (f : Fare),
    makeDrops fuel (withExtras charged extras held f) = withExtras charged extras held (makeDrops fuel f)
  | 0, _ => rfl
  | fuel + 1, f => by
    rw [makeDrops, makeDrops, makeDrop_withExtras, makeDrops_withExtras charged extras held fuel,
      apply_ite (withExtras charged extras held)]
    rfl

/-- The drops do not read the extras, the charged fare or SATURATED. -/
theorem chargeDrops_withExtras (charged extras : Nat) (held : Bool) (p : Nat) (f : Fare) :
    chargeDrops p (withExtras charged extras held f) = withExtras charged extras held (chargeDrops p f) :=
  makeDrops_withExtras charged extras held _ (addContribution p f)

/-- The charged fare after a charged second and an EXTRA is the same in either order (R117, R118). -/
theorem charged_second_extra_comm (img : Image) (n area k pulses : Nat) (price : Price) (extras : List (Nat × Nat))
    (f : Fare) :
    (formCharged price (reformExtras img extras (chargeSecond img n area k pulses price f))).charged =
      (chargeSecond img n area k pulses price (formCharged price (reformExtras img extras f))).charged := by
  obtain ⟨charged, held, heq⟩ := formCharged_reformExtras price img extras f
  calc (formCharged price (reformExtras img extras (chargeSecond img n area k pulses price f))).charged
      = min 999999 (fareDue price (chargeSecond img n area k pulses price f).metered
          (reformExtras img extras f).extrasTotal) := rfl
    _ = min 999999 (fareDue price (chargeDrops pulses f).metered (reformExtras img extras f).extrasTotal) := by
        rw [chargeSecond_metered]
    _ = (chargeSecond img n area k pulses price (formCharged price (reformExtras img extras f))).charged := by
        rw [chargeSecond_charged, heq, chargeDrops_withExtras]
        rfl

/-- Settles O16: the accounts after the n drops of `makeDrops_eq_nDrops`, the thresholds of a tariff change, and the charged
fare that reads only the metered fare and the extras total. -/
theorem dropsAccountForProgress : Obligations.DropsAccountForProgress := by
  refine ⟨?drops, ?second, ?charged, ?extras⟩
  case drops =>
    intro pulses f ht hq hm
    have hlt := chargeDrops_progress_lt pulses ht hq
    obtain ⟨n, hn, hdue⟩ := makeDrops_eq_nDrops ((addContribution pulses f).progress + 1) (addContribution pulses f)
    rw [← chargeDrops_eq] at hn
    rw [hn] at hlt ⊢
    refine ⟨n, hlt, ?none, ?some, nDrops_metered (f := addContribution pulses f) hm n,
      nDrops_saturated (f := addContribution pulses f) hm n,
      fun u us hu hle => nDrops_usage (f := addContribution pulses f) hu hle n⟩
    case none =>
      rintro rfl
      exact ⟨rfl, rfl, rfl⟩
    case some =>
      intro hpos
      obtain ⟨n, rfl⟩ := Nat.exists_eq_succ_of_ne_zero (Nat.pos_iff_ne_zero.1 hpos)
      exact ⟨nDrops_succ_progress n hdue, nDrops_succ_threshold n _, nDrops_succ_firstDrop n _⟩
  case second =>
    intro img n area k pulses price f hv hn hk ht hq
    exact evaluateBand_progress_lt (f := countSecond pulses (chargeDrops pulses f)) hv hn hk area
      (chargeDrops_progress_lt pulses ht hq)
  case charged =>
    intro price f
    refine ⟨?_, ?_, ?_⟩
    · rw [formCharged_charged]
      cases price <;> rfl
    · rw [formCharged_saturated, Bool.or_eq_true, decide_eq_true_eq]
    · cases price <;> rfl
  case extras =>
    intro img n area k pulses price extras f
    exact ⟨chargeSecond_extrasTotal img n area k pulses price f, rfl,
      charged_second_extra_comm img n area k pulses price extras f⟩

end Sys2Proof.Machine.FareProofs
end
